-- ==== Sys2Proof/Word.lean ====
section
/-!
DEFINITION. The data the block handles: bytes, byte strings, 16-bit values, text (00_scope.md R9).
-/
namespace Sys2Proof

/-- A byte: an integer in 0..255 (R9). -/
abbrev Byte := BitVec 8

/-- A byte string, first byte first (R9). -/
abbrev Bytes := List (BitVec 8)

/-- A 16-bit value: the width of the CRC (R8, `CRC_WIDTH`). -/
abbrev Word16 := BitVec 16

/-- Text as the bytes of its UTF-8 form. DESIGN CHOICE (log 14): the spec says only "text". -/
abbrev Text := List (BitVec 8)

/-- `v[7:0]`. -/
def lowByte (v : Word16) : Byte := v.setWidth 8

/-- `v[15:8]`. -/
def highByte (v : Word16) : Byte := (v >>> 8).setWidth 8

/-- `zext_16(lo) | (zext_16(hi) << 8)`: the 16-bit value of two bytes in little-endian order (R9, R102, R270). -/
def le16 (lo hi : Byte) : Word16 := lo.setWidth 16 ||| (hi.setWidth 16 <<< 8)

end Sys2Proof
end

