-- ==== Sys2Proof/Config.lean ====
section
/-!
DEFINITION. What the implementation fixes (00_scope.md R8) and the free values: the answers of the environment that
nothing in the model constrains (93_implementation_defined.md U1 to U6), and the two latches of log 8.
-/
namespace Sys2Proof

/-- `CRC_POLY`, the reflected form of 0x8005 (R8, R140). -/
def Config.crcPoly : Word16 := 0xA001

/-- `CRC_INIT` (R8, R140). -/
def Config.crcInit : Word16 := 0xFFFF

/-- `MIN_FRAME` (R8): the shortest frame, in bytes. -/
def Config.minFrame : Nat := 4

/-- One answer of the environment to one call of a transport primitive (R342). `arrivals` are the bytes that came in
since the call before, appended to PENDING (R72); `fails` says that the primitive ends in an I/O error (R78, R243);
`count` is the number drawn: how much a read may return (R75), what `T.avail` answers (R77), what `T.write` returns
(R74). -/
structure Draw where
  arrivals : Bytes
  fails : Bool
  count : Nat
deriving DecidableEq, Repr, Inhabited

/-- FREE VALUE (log 5). The environment's n-th answer once the answers listed in State are used up. Nothing is known
of it. -/
opaque Config.freeDraw : Nat → Draw

/-- FREE VALUE (log 8). What an 8-bit latch holds of an integer operand that does not fit a byte. Nothing is known of
it, and no rule reads it. -/
opaque Config.freeLatch : Int → Byte

end Sys2Proof
end

