-- ==== Sys2Proof/Machine/Outcome.lean ====
section
/-!
DEFINITION. Outcomes: the kinds and reasons of 30_encoding.md R124 and R125 with their codes, the diagnostic record of
60_exceptions.md R322, and what the outcome register OUT holds (10_state.md R47).
-/
namespace Sys2Proof.Machine

/-- Why PARSE rejects a byte string (R125, R170). What LASTERR holds is one of these, or none (R44). -/
inductive ParseReason where
  | shortFrame
  | badCrc
  | addrMismatch
deriving DecidableEq, Repr

/-- The reason codes of errors, in the order of the table of R125. -/
inductive Reason where
  | addrRange | cmdRange | dataRange | addrText | retriesRange | timeoutRange | badKind | passwordLen | monthRange
  | shortFrame | badCrc | addrMismatch | shortPayload | badBlockLen
  | silent
  | ioDiscard | ioWrite | ioRead | ioAvail | finalParse | retainedParse | fallback | ioOpen
deriving DecidableEq, Repr

/-- The outcome kinds of R124. -/
inductive Kind where
  | ok
  | invalidArgument
  | protocolError
  | noResponse
  | transportError
deriving DecidableEq, Repr

/-- The refusal reasons of R125. -/
inductive RefusalReason where
  | illegalOp
  | notOpen
  | alreadyConfigured
  | busy
deriving DecidableEq, Repr

/-- The diagnostic record of an ERR (R322). A field that R322 does not list for a reason is absent. -/
structure Info where
  reason : Reason
  address : Option Byte := none
  command : Option Byte := none
  attempts : Option Nat := none
  raw : Option Bytes := none
  cause : Option ParseReason := none
deriving DecidableEq, Repr

/-- The value of an `OK` outcome, one shape per operation (R323). -/
inductive OkValue where
  /-- CONFIGURE and CLOSE. -/
  | unit
  /-- CHECKSUM: the 16-bit CRC (R146). -/
  | checksum (v : Word16)
  /-- BUILD: the frame (R160). -/
  | frame (f : Bytes)
  /-- PARSE: address, command, payload (R170). -/
  | parsed (address command : Byte) (payload : Bytes)
  /-- EXCHANGE: response command, payload (R210). -/
  | response (command : Byte) (payload : Bytes)
deriving DecidableEq, Repr

/-- What OUT holds (R47). -/
inductive Out where
  | ok (v : OkValue)
  | err (info : Info)
  | refused (reason : RefusalReason)
deriving DecidableEq, Repr

/-- The same reason as a reason of ERR (R125). -/
def ParseReason.toReason (r : ParseReason) : Reason :=
  match r with
  | .shortFrame => .shortFrame
  | .badCrc => .badCrc
  | .addrMismatch => .addrMismatch

/-- The kind a reason belongs to (R125, first column). -/
def Reason.kind (r : Reason) : Kind :=
  match r with
  | .addrRange | .cmdRange | .dataRange | .addrText | .retriesRange | .timeoutRange | .badKind | .passwordLen
  | .monthRange => .invalidArgument
  | .shortFrame | .badCrc | .addrMismatch | .shortPayload | .badBlockLen => .protocolError
  | .silent => .noResponse
  | .ioDiscard | .ioWrite | .ioRead | .ioAvail | .finalParse | .retainedParse | .fallback | .ioOpen => .transportError

/-- The code of a reason within its kind (R125). -/
def Reason.code (r : Reason) : Nat :=
  match r with
  | .addrRange | .shortFrame | .silent | .ioDiscard => 1
  | .cmdRange | .badCrc | .ioWrite => 2
  | .dataRange | .addrMismatch | .ioRead => 3
  | .addrText | .shortPayload | .ioAvail => 4
  | .retriesRange | .badBlockLen | .finalParse => 5
  | .timeoutRange | .retainedParse => 6
  | .badKind | .fallback => 7
  | .passwordLen | .ioOpen => 8
  | .monthRange => 9

/-- The code of a kind (R124). -/
def Kind.code (k : Kind) : Nat :=
  match k with
  | .ok => 0
  | .invalidArgument => 1
  | .protocolError => 2
  | .noResponse => 3
  | .transportError => 4

/-- `is_transport_error(kind)` (R321): NO_RESPONSE is a subtype of TRANSPORT_ERROR. -/
def Kind.isTransportError (k : Kind) : Bool :=
  match k with
  | .noResponse | .transportError => true
  | .ok | .invalidArgument | .protocolError => false

/-- The code of a refusal reason (R125). -/
def RefusalReason.code (r : RefusalReason) : Nat :=
  match r with
  | .illegalOp => 1
  | .notOpen => 2
  | .alreadyConfigured => 3
  | .busy => 4

/-- The kind of an outcome; a refusal is no kind (R124). -/
def Out.kind? (o : Out) : Option Kind :=
  match o with
  | .ok _ => some .ok
  | .err info => some info.reason.kind
  | .refused _ => none

end Sys2Proof.Machine
end

