-- ==== Sys2Proof/Machine/Frame.lean ====
section
/-!
DEFINITION. The pure functions of the CRC unit (40_crc.md R140) and of the frame encoder and parser (30_encoding.md
R100 to R103, 41_frame_codec.md R160 to R172). They touch no state; Machine/Codec.lean and Machine/Exchange.lean use
them, and the decoder of wire frames does.
-/
namespace Sys2Proof.Machine

/-- One shift of the CRC register (R141): right by one, then the polynomial if the bit shifted out was 1. -/
def crcShift (crc : Word16) : Word16 :=
  if crc.getLsbD 0 then (crc >>> 1) ^^^ Config.crcPoly else crc >>> 1

/-- `n` shifts. -/
def crcShifts (n : Nat) (crc : Word16) : Word16 :=
  match n with
  | 0 => crc
  | k + 1 => crcShifts k (crcShift crc)

/-- One byte: it enters the low 8 bits of the register, then eight shifts (R140). -/
def crcByte (crc : Word16) (b : Byte) : Word16 := crcShifts 8 (crc ^^^ b.setWidth 16)

/-- The CRC register after the bytes of `s`, started at `crc`. -/
def crcFrom (crc : Word16) (s : Bytes) : Word16 := s.foldl crcByte crc

/-- `CRC16(s)` (R140): initial value 0xFFFF, no final XOR. -/
def crc16 (s : Bytes) : Word16 := crcFrom Config.crcInit s

/-- A 16-bit value as two bytes, low byte first (R143). -/
def crcBytes (v : Word16) : Bytes := [lowByte v, highByte v]

/-- The frame of a body: the body and its CRC, little-endian (R100, R102). -/
def sealBody (body : Bytes) : Bytes := body ++ crcBytes (crc16 body)

/-- Address, command and data of a frame, before the CRC (R100). -/
def frameBody (address command : Byte) (data : Bytes) : Bytes := address :: command :: data

/-- The wire frame `[address][command][data...][crc_lo][crc_hi]` (R100). -/
def frame (address command : Byte) (data : Bytes) : Bytes := sealBody (frameBody address command data)

/-- `f[0..L-2)`: what the CRC of a received string is computed over (R102). -/
def checkedPart (f : Bytes) : Bytes := f.take (f.length - 2)

/-- The CRC a string carries in its last two bytes (R102, `stored`). -/
def storedCrc (f : Bytes) : Word16 := le16 (f.getD (f.length - 2) 0) (f.getD (f.length - 1) 0)

/-- `f[2..L-2)`: the payload (R103, R171). -/
def payload (f : Bytes) : Bytes := (checkedPart f).drop 2

/-- Does the leading address byte meet the expectation? An absent expectation is met by every byte; an integer outside
0..255 by none (R112, R170). -/
def addressMatches (b : Byte) (expect : Option Int) : Bool :=
  match expect with
  | none => true
  | some e => decide ((b.toNat : Int) = e)

/-- PARSE's three checks in their order and the fields of a good frame (R170, R172). -/
def parseFrame (f : Bytes) (expect : Option Int) : Except ParseReason (Byte × Byte × Bytes) :=
  if f.length < Config.minFrame then .error .shortFrame
  else if storedCrc f ≠ crc16 (checkedPart f) then .error .badCrc
  else if addressMatches (f.getD 0 0) expect then .ok (f.getD 0 0, f.getD 1 0, payload f)
  else .error .addrMismatch

end Sys2Proof.Machine
end

