-- ==== Sys2Proof/Syntax.lean ====
section
/-!
DEFINITION. The operations: one constructor of `Instr` per row of spec/opcode_table.json, with the operand tuples of
30_encoding.md R111 and R112; the host sequences that have no row (R115); and a request as the host presents it (R110).
-/
namespace Sys2Proof

/-- A loosely typed operand of CONFIGURE: R241 and R242 ask what kind of value they were given. DESIGN CHOICE (log 14):
a number is a rational, and an integer is a rational with denominator 1. -/
inductive HostValue where
  /-- A number: 42, -1, 1.5. -/
  | num (q : Rat)
  /-- Text, such as "007" or "0x10". -/
  | text (t : Text)
  /-- A value of any other type (R241's last line). -/
  | other
deriving DecidableEq, Repr

/-- CONFIGURE's `kind` operand: `serial`, `tcp`, or a kind given by its name, such as udp (R242). DESIGN CHOICE (log 27):
the names "serial" and "tcp" mean the kinds the block has. -/
inductive KindArg where
  | serial
  | tcp
  | named (name : Text)
deriving DecidableEq, Repr

/-- The transport-specific parameters of CONFIGURE (R36, R240). The block does not validate them (R242): they may be those
of the other kind. DESIGN CHOICE (log 14): baud rate and tcp port are integers, negative ones among them; the spec gives
them no type. -/
inductive OpenParams where
  | serialPort (port : Text) (baud : Int)
  | tcpEndpoint (host : Text) (port : Int)
deriving DecidableEq, Repr

/-- The operations of the opcode table. -/
inductive Instr where
  /-- CONFIGURE, op 0x01 (R240). -/
  | configure (kind : KindArg) (address : HostValue) (timeout : Rat) (retries : HostValue) (params : OpenParams)
  /-- CHECKSUM, op 0x02 (R146). -/
  | checksum (s : Bytes)
  /-- BUILD, op 0x03 (R160). -/
  | build (address command : Int) (data : List Int)
  /-- PARSE, op 0x04 (R170). -/
  | parse (f : Bytes) (expect : Option Int)
  /-- EXCHANGE, op 0x05 (R190). -/
  | exchange (command : Int) (data : List Int) (minlen : Nat)
  /-- CLOSE, op 0x06 (R250). -/
  | close
  /-- RESERVED_OP: an unassigned op code, 0x00 or 0x07 to 0xFF (R113). -/
  | reservedOp (code : Byte)
  /-- TEST_LINK (R262). -/
  | testLink
  /-- OPEN_SESSION: access level and password (R263). -/
  | openSession (lvl : Int) (pw : List Int)
  /-- READ_ENERGY: group and index (R276). -/
  | readEnergy (group index : Int)
  /-- READ_INFO (R265). -/
  | readInfo
  /-- READ_RATIOS (R267). -/
  | readRatios
  /-- READ_VERSION (R266). -/
  | readVersion
  /-- READ_NETADDR (R264). -/
  | readNetaddr
  /-- UNLOCK_ARCHIVE: the second exchange of PREPARE_ENERGY (R120, R275). -/
  | unlockArchive
deriving DecidableEq, Repr

/-- The pseudo-operations of R115 that have no row of the opcode table. -/
inductive Sequence where
  /-- READ_PASSPORT (R268). -/
  | readPassport
  /-- PREPARE_ENERGY (R275). -/
  | prepareEnergy
  /-- READ_ENERGY_RESET (R277). -/
  | readEnergyReset
  /-- READ_ENERGY_MONTH m (R278). -/
  | readEnergyMonth (m : Int)
  /-- READ_ENERGY_ALL (R279). -/
  | readEnergyAll
deriving DecidableEq, Repr

/-- A request as the host presents it (R110, R114). DESIGN CHOICE (log 1). -/
inductive Request where
  /-- Format HOSTOP: the op code and the operands laid out as bytes (log 2). -/
  | transaction (bytes : Bytes)
  /-- Format RTU_REQUEST: a host-profile operation named by its wire request frame (R120; log 3). -/
  | wire (frame : Bytes)
  /-- An operation with its operand tuple as typed values, in the notation of R114. -/
  | call (i : Instr)
  /-- A pseudo-operation without a row of its own. -/
  | sequence (q : Sequence)
deriving DecidableEq, Repr

end Sys2Proof
end

