-- ==== Sys2Proof/WellFormed.lean ====
section
/-!
DEFINITION. Which operand tuples are requests of the interface (30_encoding.md R110 to R114). Operand values outside a
domain are NOT ill-formed: the operations answer them with INVALID_ARGUMENT (R112), and CONFIGURE's transport parameters
are not validated at all (43_lifecycle.md R242). The one condition is on the code of RESERVED_OP.
-/
namespace Sys2Proof

/-- The unassigned op codes: 0x00 and 0x07 to 0xFF (R113). -/
def unassigned (code : Byte) : Bool := decide (code.toNat = 0) || decide (7 ≤ code.toNat)

/-- A well-formed operation. -/
def Instr.wellFormed (i : Instr) : Bool :=
  match i with
  | .reservedOp code => unassigned code
  | .configure _ _ _ _ _ | .checksum _ | .build _ _ _ | .parse _ _ | .exchange _ _ _ | .close | .testLink | .openSession _ _
  | .readEnergy _ _ | .readInfo | .readRatios | .readVersion | .readNetaddr | .unlockArchive => true

end Sys2Proof
end

