-- ==== Sys2Proof/Decode.lean ====
section
/-!
DEFINITION. Decoding requests (30_encoding.md R110 to R113, R120) and the encoders that go with it.

Format HOSTOP: an op code byte (R111) and the operand tuple. The spec gives the op code only; the byte layout of the
operands is a DESIGN CHOICE (log 2): a natural number in groups of 7 bits, least significant first, bit 7 set on all
but the last; an integer folded onto the naturals (0, -1, 1, -2, ...); a byte string or text as its length and its
bytes; a list of integers as its length and its elements; a rational as numerator and denominator less one; a one-byte
tag before the alternatives of a type, tag 0 first.

Format RTU_REQUEST: the wire frame of the request shape (R100, R120).
-/
namespace Sys2Proof

open Sys2Proof.Machine

/-- Why a request is none of the interface. -/
inductive DecodeError where
  /-- The bytes end inside an operand. -/
  | truncated
  /-- Bytes follow the last operand. -/
  | trailing
  /-- A tag byte that no alternative has. -/
  | badTag
  /-- RESERVED_OP with a code that is assigned (`Instr.wellFormed`). -/
  | illFormed
  /-- The wire frame fails the frame check (R102). -/
  | badFrame (reason : ParseReason)
  /-- The frame has none of the request shapes of R120. -/
  | unknownShape
  /-- A sequence is no single operation. -/
  | notOneOperation
deriving DecidableEq, Repr

/-! ### Writing operands -/

/-- A natural number in at most `fuel + 1` groups. -/
def putNatFuel (fuel n : Nat) : Bytes :=
  match fuel with
  | 0 => [BitVec.ofNat 8 n]
  | k + 1 => if n < 128 then [BitVec.ofNat 8 n] else BitVec.ofNat 8 (128 + n % 128) :: putNatFuel k (n / 128)

/-- A natural number. -/
def putNat (n : Nat) : Bytes := putNatFuel n n

/-- An integer. -/
def putInt (z : Int) : Bytes :=
  match z with
  | .ofNat n => putNat (2 * n)
  | .negSucc n => putNat (2 * n + 1)

/-- A byte string or text. -/
def putBytes (s : Bytes) : Bytes := putNat s.length ++ s

/-- The elements of a list of integers. -/
def putIntList (d : List Int) : Bytes :=
  match d with
  | [] => []
  | z :: rest => putInt z ++ putIntList rest

/-- A list of integers. -/
def putInts (d : List Int) : Bytes := putNat d.length ++ putIntList d

/-- A rational number. -/
def putRat (q : Rat) : Bytes := putInt q.num ++ putNat (q.den - 1)

/-- A loosely typed operand. -/
def putHostValue (v : HostValue) : Bytes :=
  match v with
  | .num q => 0 :: putRat q
  | .text t => 1 :: putBytes t
  | .other => [2]

/-- CONFIGURE's kind. -/
def putKind (k : KindArg) : Bytes :=
  match k with
  | .serial => [0]
  | .tcp => [1]
  | .named name => 2 :: putBytes name

/-- CONFIGURE's transport parameters. -/
def putParams (p : OpenParams) : Bytes :=
  match p with
  | .serialPort port baud => 0 :: (putBytes port ++ putInt baud)
  | .tcpEndpoint host port => 1 :: (putBytes host ++ putInt port)

/-- An optional integer. -/
def putOptInt (e : Option Int) : Bytes :=
  match e with
  | none => [0]
  | some z => 1 :: putInt z

/-! ### Reading operands -/

/-- A natural number and the bytes after it. -/
def getNat (bs : Bytes) : Except DecodeError (Nat × Bytes) :=
  match bs with
  | [] => .error .truncated
  | b :: rest =>
    if b.toNat < 128 then .ok (b.toNat, rest)
    else match getNat rest with
      | .ok (n, r) => .ok (b.toNat - 128 + 128 * n, r)
      | .error e => .error e

/-- An integer and the bytes after it. -/
def getInt (bs : Bytes) : Except DecodeError (Int × Bytes) :=
  match getNat bs with
  | .ok (n, r) => .ok (if n % 2 = 0 then Int.ofNat (n / 2) else Int.negSucc (n / 2), r)
  | .error e => .error e

/-- A byte string and the bytes after it. -/
def getBytes (bs : Bytes) : Except DecodeError (Bytes × Bytes) :=
  match getNat bs with
  | .ok (n, r) => if r.length < n then .error .truncated else .ok (r.take n, r.drop n)
  | .error e => .error e

/-- `n` integers and the bytes after them. -/
def getIntList (n : Nat) (bs : Bytes) : Except DecodeError (List Int × Bytes) :=
  match n with
  | 0 => .ok ([], bs)
  | k + 1 =>
    match getInt bs with
    | .ok (z, r) =>
      match getIntList k r with
      | .ok (zs, r2) => .ok (z :: zs, r2)
      | .error e => .error e
    | .error e => .error e

/-- A list of integers and the bytes after it. -/
def getInts (bs : Bytes) : Except DecodeError (List Int × Bytes) :=
  match getNat bs with
  | .ok (n, r) => getIntList n r
  | .error e => .error e

/-- A rational number and the bytes after it. -/
def getRat (bs : Bytes) : Except DecodeError (Rat × Bytes) :=
  match getInt bs with
  | .ok (num, r) =>
    match getNat r with
    | .ok (d, r2) => .ok (mkRat num (d + 1), r2)
    | .error e => .error e
  | .error e => .error e

/-- A tag byte, as a number, and the bytes after it. -/
def getTag (bs : Bytes) : Except DecodeError (Nat × Bytes) :=
  match bs with
  | [] => .error .truncated
  | b :: rest => .ok (b.toNat, rest)

/-- A loosely typed operand and the bytes after it. -/
def getHostValue (bs : Bytes) : Except DecodeError (HostValue × Bytes) := do
  let (t, r) ← getTag bs
  match t with
  | 0 => do
    let (q, r2) ← getRat r
    pure (.num q, r2)
  | 1 => do
    let (x, r2) ← getBytes r
    pure (.text x, r2)
  | 2 => pure (.other, r)
  | _ => throw .badTag

/-- CONFIGURE's kind and the bytes after it. -/
def getKind (bs : Bytes) : Except DecodeError (KindArg × Bytes) := do
  let (t, r) ← getTag bs
  match t with
  | 0 => pure (.serial, r)
  | 1 => pure (.tcp, r)
  | 2 => do
    let (x, r2) ← getBytes r
    pure (.named x, r2)
  | _ => throw .badTag

/-- CONFIGURE's transport parameters and the bytes after them. -/
def getParams (bs : Bytes) : Except DecodeError (OpenParams × Bytes) := do
  let (t, r) ← getTag bs
  match t with
  | 0 => do
    let (x, r2) ← getBytes r
    let (n, r3) ← getInt r2
    pure (.serialPort x n, r3)
  | 1 => do
    let (x, r2) ← getBytes r
    let (n, r3) ← getInt r2
    pure (.tcpEndpoint x n, r3)
  | _ => throw .badTag

/-- An optional integer and the bytes after it. -/
def getOptInt (bs : Bytes) : Except DecodeError (Option Int × Bytes) := do
  let (t, r) ← getTag bs
  match t with
  | 0 => pure (none, r)
  | 1 => do
    let (z, r2) ← getInt r
    pure (some z, r2)
  | _ => throw .badTag

/-! ### HOSTOP transactions -/

/-- The operation of an op code (R111) and the bytes after its operands. An unassigned code (R113) takes whatever
bytes come with it as its operands (log 25). -/
def readOperation (op : Nat) (bs : Bytes) : Except DecodeError (Instr × Bytes) :=
  match op with
  | 1 => do
    let (k, r) ← getKind bs
    let (a, r) ← getHostValue r
    let (t, r) ← getRat r
    let (n, r) ← getHostValue r
    let (p, r) ← getParams r
    pure (.configure k a t n p, r)
  | 2 => do
    let (s, r) ← getBytes bs
    pure (.checksum s, r)
  | 3 => do
    let (a, r) ← getInt bs
    let (c, r) ← getInt r
    let (d, r) ← getInts r
    pure (.build a c d, r)
  | 4 => do
    let (f, r) ← getBytes bs
    let (e, r) ← getOptInt r
    pure (.parse f e, r)
  | 5 => do
    let (c, r) ← getInt bs
    let (d, r) ← getInts r
    let (m, r) ← getNat r
    pure (.exchange c d m, r)
  | 6 => pure (.close, bs)
  | n => pure (.reservedOp (BitVec.ofNat 8 n), [])

/-- A HOSTOP transaction: op code, operands, nothing after them. -/
def decodeTransaction (bs : Bytes) : Except DecodeError Instr :=
  match bs with
  | [] => .error .truncated
  | op :: rest =>
    match readOperation op.toNat rest with
    | .error e => .error e
    | .ok (i, r) =>
      if r = [] then .ok i else .error .trailing

/-- The bytes of a HOSTOP operation; none for the host-profile operations. -/
def encodeTransaction (i : Instr) : Option Bytes :=
  match i with
  | .configure k a t n p => some (0x01 :: (putKind k ++ (putHostValue a ++ (putRat t ++ (putHostValue n ++ putParams p)))))
  | .checksum s => some (0x02 :: putBytes s)
  | .build a c d => some (0x03 :: (putInt a ++ (putInt c ++ putInts d)))
  | .parse f e => some (0x04 :: (putBytes f ++ putOptInt e))
  | .exchange c d m => some (0x05 :: (putInt c ++ (putInts d ++ putNat m)))
  | .close => some [0x06]
  | .reservedOp code => some [code]
  | .testLink | .openSession _ _ | .readEnergy _ _ | .readInfo | .readRatios | .readVersion | .readNetaddr
  | .unlockArchive => none

/-! ### RTU_REQUEST frames -/

/-- Does an integer fit a byte (R112)? -/
def inByte (z : Int) : Bool := decide (0 ≤ z) && decide (z ≤ 255)

/-- An integer in 0..255 as a byte. -/
def toByte (z : Int) : Byte := BitVec.ofInt 8 z

/-- A byte as an integer. -/
def byteInt (b : Byte) : Int := (b.toNat : Int)

/-- Command and data of a host-profile operation's request (R120), as the operands of its EXCHANGE. None for the block's
own operations. -/
def requestShape (i : Instr) : Option (Int × List Int) :=
  match i with
  | .testLink => some (0x00, [])
  | .openSession lvl pw => some (0x01, lvl :: pw)
  | .readEnergy group index => some (0x05, [group, index])
  | .readInfo => some (0x08, [0x00])
  | .readRatios => some (0x08, [0x02])
  | .readVersion => some (0x08, [0x03])
  | .readNetaddr => some (0x08, [0x05])
  | .unlockArchive => some (0x08, [0x12])
  | .configure _ _ _ _ _ | .checksum _ | .build _ _ _ | .parse _ _ | .exchange _ _ _ | .close | .reservedOp _ => none

/-- Do the operands fit the request frame: bytes, and a password of six (R120, R263)? -/
def Instr.fitsFrame (i : Instr) : Bool :=
  match i with
  | .openSession lvl pw => inByte lvl && (pw.all inByte && decide (pw.length = 6))
  | .readEnergy group index => inByte group && inByte index
  | .testLink | .readInfo | .readRatios | .readVersion | .readNetaddr | .unlockArchive => true
  | .configure _ _ _ _ _ | .checksum _ | .build _ _ _ | .parse _ _ | .exchange _ _ _ | .close | .reservedOp _ => false

/-- The wire request frame of a host-profile operation to device `a` (R100, R120). -/
def encodeWire (a : Byte) (i : Instr) : Option Bytes :=
  if i.fitsFrame then (requestShape i).map fun (c, d) => frame a (toByte c) (d.map toByte) else none

/-- The operation a request's command byte and data name (R120). Sub-codes of command 0x08 that the table does not list,
and other lengths of data, are no request shape. -/
def shapeOf (c : Nat) (d : Bytes) : Except DecodeError Instr :=
  match c, d with
  | 0x00, [] => .ok .testLink
  | 0x01, lvl :: pw => if pw.length = 6 then .ok (.openSession (byteInt lvl) (pw.map byteInt)) else .error .unknownShape
  | 0x05, [group, index] => .ok (.readEnergy (byteInt group) (byteInt index))
  | 0x08, [sub] =>
    match sub.toNat with
    | 0x00 => .ok .readInfo
    | 0x02 => .ok .readRatios
    | 0x03 => .ok .readVersion
    | 0x05 => .ok .readNetaddr
    | 0x12 => .ok .unlockArchive
    | _ => .error .unknownShape
  | _, _ => .error .unknownShape

/-- The operation a wire request frame names, whatever device it addresses (log 3). -/
def decodeWire (f : Bytes) : Except DecodeError Instr :=
  match parseFrame f none with
  | .error r => .error (.badFrame r)
  | .ok (_, c, d) => shapeOf c.toNat d

/-! ### Requests and table words -/

/-- The operation of a request. -/
def decode (r : Request) : Except DecodeError Instr :=
  match r with
  | .transaction bs => decodeTransaction bs
  | .wire f => decodeWire f
  | .call i => if i.wellFormed then .ok i else .error .illFormed
  | .sequence _ => .error .notOneOperation

/-- The request of an operation: a transaction for the block's own, the wire frame to device `a` for a host-profile
operation whose operands fit a frame, and the typed form for the rest. -/
def encode (a : Byte) (i : Instr) : Request :=
  match encodeTransaction i, encodeWire a i with
  | some bs, _ => .transaction bs
  | none, some f => .wire f
  | none, none => .call i

/-- How many zero bytes the operand tuple takes when every operand byte is zero, per op code. -/
def zeroOperandBytes (op : Nat) : Nat :=
  match op with
  | 1 => 12
  | 2 => 1
  | 3 => 3
  | 4 => 2
  | 5 => 3
  | _ => 0

/-- The lowest `n` bytes of a number, bits 7..0 first. -/
def wordBytes (n w : Nat) : Bytes :=
  match n with
  | 0 => []
  | k + 1 => BitVec.ofNat 8 w :: wordBytes k (w / 256)

/-- The request whose bits are `w`. The HOSTOP rows of the table are one op code byte, its operands then all zero; the
RTU_REQUEST rows are whole frames, of 32 bits or more (R8, MIN_FRAME). -/
def tableRequest (nbits w : Nat) : Request :=
  if nbits < 32 then .transaction (BitVec.ofNat 8 w :: List.replicate (zeroOperandBytes (w % 256)) 0)
  else .wire (wordBytes (nbits / 8) w)

/-- The operation the decoder reads from an instruction whose bits are `w`, numbered as spec/opcode_table.json does. -/
def decodeTableWord (nbits w : Nat) : Option Instr :=
  match decode (tableRequest nbits w) with
  | .ok i => some i
  | .error _ => none

end Sys2Proof
end

