-- ==== Sys2Proof/Machine/HostTypes.lean ====
section
/-!
DEFINITION. The values of the host profile (47_host_profile.md): results of the host operations and the parameters the
spec leaves open for them. They are outside the block (00_scope.md R6).
-/
namespace Sys2Proof.Machine

/-- A calendar date (R272). -/
structure Date where
  year : Nat
  month : Nat
  day : Nat
deriving DecidableEq, Repr

/-- The tariff labels of the six register indices (R277, R281). -/
inductive TariffLabel where
  | sum | t1 | t2 | t3 | t4 | loss
deriving DecidableEq, Repr

/-- The result of one energy register read (R276): active and reactive value, and the whole payload. -/
structure EnergyReading where
  active : Nat
  reactive : Nat
  raw : Bytes
deriving DecidableEq, Repr

/-- `EnergyFromReset` (R281): two mappings from tariff label to value, Wh and varh, and the raw bytes of the six reads. -/
structure EnergyFromReset where
  active : List (TariffLabel × Nat)
  reactive : List (TariffLabel × Nat)
  raw : List (TariffLabel × Bytes)
deriving DecidableEq, Repr

/-- Voltage and current transformation ratio, `none` where undetermined, and the raw payload (R267). -/
structure Ratios where
  voltage : Option Word16
  current : Option Byte
  raw : Bytes
deriving DecidableEq, Repr

/-- A firmware version triple (R266). -/
structure Version where
  major : Byte
  minor : Byte
  patch : Byte
deriving DecidableEq, Repr

/-- The six responses of READ_PASSPORT (R268). -/
inductive PassportBlock where
  | testLink | openSession | netaddr | info | version | ratios
deriving DecidableEq, Repr

/-- A response kept raw: which one, its command byte and its payload. -/
structure RawBlock where
  block : PassportBlock
  command : Byte
  payload : Bytes
deriving DecidableEq, Repr

/-- `PASSPORT_RAW_BLOCKS` (R269, 92_eei_decisions.md D32), a parameter the spec leaves open: which responses are kept
raw beside the info and ratios payloads, which bytes of (response command, info payload) form the raw serial, and
whether the network address is kept. -/
structure PassportParams where
  keep : List PassportBlock
  serialBytes : List Nat
  keepNetaddr : Bool
deriving DecidableEq, Repr

/-- `PassportData` (R269). `none` stands for undetermined or unknown. -/
structure PassportData where
  serialRaw : Bytes
  serial : Option Text
  date : Option Date
  version : Option Version
  voltage : Option Word16
  current : Option Byte
  rawBlocks : List RawBlock
  netaddr : Option Byte
deriving DecidableEq, Repr

/-- The value of a host operation that succeeded. -/
inductive HostResult where
  /-- TEST_LINK, OPEN_SESSION, UNLOCK_ARCHIVE, PREPARE_ENERGY. -/
  | unit
  /-- READ_NETADDR (R264). -/
  | netaddr (b : Byte)
  /-- READ_INFO: response command and payload (R265). -/
  | infoBlock (command : Byte) (payload : Bytes)
  /-- READ_VERSION; `none` is undetermined (R266). -/
  | version (v : Option Version)
  /-- READ_RATIOS (R267). -/
  | ratios (r : Ratios)
  /-- READ_ENERGY (R276). -/
  | energy (r : EnergyReading)
  /-- READ_PASSPORT (R268). -/
  | passport (d : PassportData)
  /-- READ_ENERGY_RESET and READ_ENERGY_MONTH (R277, R278). -/
  | energySet (e : EnergyFromReset)
  /-- READ_ENERGY_ALL: the twelve months in order (R279). -/
  | energyYear (l : List EnergyFromReset)
deriving DecidableEq, Repr

/-- How a host operation ended: with its value, or with an outcome it stopped on, passed on unchanged (R260) or raised by
a host-side check. -/
inductive HostOutcome where
  | ok (v : HostResult)
  | stopped (o : Out)
deriving DecidableEq, Repr

/-- The `min_response_len` of each host request shape (R261): parameters, no value of which the spec gives. -/
structure MinLens where
  test : Nat
  openSession : Nat
  netaddr : Nat
  info : Nat
  version : Nat
  ratios : Nat
  unlock : Nat
  energy : Nat
deriving DecidableEq, Repr

end Sys2Proof.Machine
end

