-- ==== Sys2Proof/Machine/State.lean ====
section
/-!
DEFINITION. The state: the block's registers (10_state.md R30 to R50), what the exchange controller only implies, the
environment's side of the transport (20_memory.md R70 to R78), and the host's side (60_exceptions.md R340). The block has
no addressable memory (R70, R84), so State has none.
-/
namespace Sys2Proof.Machine

open Sys2Proof

/-- `LC` (R32). -/
inductive Lifecycle where
  | unconfigured
  | opened
  | closed
deriving DecidableEq, Repr

/-- The values of `KIND` (R36). -/
inductive TransportKind where
  | serial
  | tcp
deriving DecidableEq, Repr

/-- The values of `STATE` (R37), in the order of their codes 0 to 9. -/
inductive FsmState where
  | idle | build | discard | write | readHead | pollAvail | readTail | checkLen | parse | classify
deriving DecidableEq, Repr

/-- A call of a transport primitive (R10), as the transport sees it. -/
inductive TransportCall where
  /-- `T.open(kind, params)` (R243). -/
  | connect (kind : TransportKind) (params : OpenParams)
  /-- `T.close()` (R252). -/
  | release
  /-- `T.discard()` (R73). -/
  | discard
  /-- `T.write(s)` (R74). -/
  | write (s : Bytes)
  /-- `T.read(max)` (R75). -/
  | read (max : Nat)
  /-- `T.avail()` (R77). -/
  | avail
deriving DecidableEq, Repr

/-- The machine never stops: every error of the spec is an outcome in OUT (R320, R329), and a request it gives no meaning is
refused there (R10, R325). So there is no fault. -/
inductive Fault where
deriving DecidableEq, Repr

/-- The model has no meaning for an operation. -/
inductive Refusal where
  /-- Raised by an arm of `exec` that has no meaning yet; no arm is such. SAFE. -/
  | notModelled (mnemonic : String)
deriving DecidableEq, Repr

/-- The state of block, environment and host. -/
structure State where
  /-- LC (R32) -/
  lc : Lifecycle
  /-- ADDR (R33) -/
  addr : Byte
  /-- RETRIES (R34) -/
  retries : Nat
  /-- TIMEOUT in seconds (R35) -/
  timeout : Rat
  /-- KIND (R36) -/
  kind : TransportKind
  /-- the transport-specific parameters written with KIND (R36, R50) -/
  params : OpenParams
  /-- STATE (R37) -/
  fsm : FsmState
  /-- ATT (R38) -/
  att : Nat
  /-- CMD (R39) -/
  cmd : Byte
  /-- DATA (R39) -/
  data : Bytes
  /-- MINLEN (R39) -/
  minlen : Nat
  /-- REQ (R40) -/
  req : Bytes
  /-- RX (R41) -/
  rx : Bytes
  /-- LASTRAW (R42) -/
  lastRaw : Bytes
  /-- ALLSHORT (R43) -/
  allShort : Bool
  /-- LASTERR (R44); `none` is the register's own value "none" -/
  lastErr : Option ParseReason
  /-- LASTPE (R45) -/
  lastPe : Bool
  /-- CRC, the CRC unit's working register (R46) -/
  crc : Word16
  /-- OUT (R47) -/
  out : Out
  /-- REFUSED_MARK (R48) -/
  refusedMark : Bool
  /-- the count POLL_AVAIL returned, read by READ_TAIL (R190, R196; log 10) -/
  availN : Nat
  /-- the command operand of the running EXCHANGE, on the host interface (R31, R112; log 10) -/
  opCmd : Int
  /-- the data operand of the running EXCHANGE, on the host interface (R31, R112; log 10) -/
  opData : List Int
  /-- environment: PENDING (R72) -/
  pending : Bytes
  /-- environment: the transmit stream (R70, R71) -/
  tx : Bytes
  /-- environment: the calls the block has made, oldest first (log 23) -/
  calls : List TransportCall
  /-- environment: its coming answers, one per primitive call (log 5) -/
  inputs : List Draw
  /-- environment: how many free draws were used (log 5) -/
  drawCount : Nat
  /-- host: the requests it will present, oldest first (log 1) -/
  requests : List Request
  /-- host: MINLEN_* (R261; log 12) -/
  hostMin : MinLens
  /-- host: PASSPORT_RAW_BLOCKS (R269; log 13) -/
  passportParams : PassportParams
  /-- host: the result of the last host-profile operation (log 20) -/
  hostOut : HostOutcome
deriving DecidableEq, Repr

/-- Power-up (R50, R360): LC, STATE and REFUSED_MARK as the spec says. DESIGN CHOICE for the rest: every register that "holds
no value" at the value log 4 names, the registers of the model's own as logs 10, 12 and 13 say, the host's result at
OK(unit) although no host operation has ended (log 20); nothing pending (95_test_vectors.md section 8), nothing transmitted,
no call, no request and no scripted answer (log 4). -/
def State.reset : State where
  lc := .unconfigured
  addr := 0
  retries := 0
  timeout := 0
  kind := .serial
  params := .serialPort [] 0
  fsm := .idle
  att := 0
  cmd := 0
  data := []
  minlen := 0
  req := []
  rx := []
  lastRaw := []
  allShort := false
  lastErr := none
  lastPe := false
  crc := 0
  out := .ok .unit
  refusedMark := false
  availN := 0
  opCmd := 0
  opData := []
  pending := []
  tx := []
  calls := []
  inputs := []
  drawCount := 0
  requests := []
  hostMin := ⟨0, 0, 0, 0, 0, 0, 0, 0⟩
  passportParams := ⟨[], [0, 1, 2, 3], false⟩
  hostOut := .ok .unit

end Sys2Proof.Machine
end

