-- ==== Sys2Proof/Machine/Ops.lean ====
section
/-!
DEFINITION. The operations the meanings share: ending an operation (60_exceptions.md R325, R329), the CRC unit's use
(10_state.md R46), and the six transport primitives (20_memory.md R73 to R78, 43_lifecycle.md R243, R252).
-/
namespace Sys2Proof.Machine

open Sys2Proof

/-! ### Codes of registers -/

/-- The codes of STATE (R37). -/
def FsmState.code (f : FsmState) : Nat :=
  match f with
  | .idle => 0
  | .build => 1
  | .discard => 2
  | .write => 3
  | .readHead => 4
  | .pollAvail => 5
  | .readTail => 6
  | .checkLen => 7
  | .parse => 8
  | .classify => 9

/-! ### Ending an operation -/

/-- `return OK(v)`: the operation ends, OUT holds its value, STATE is IDLE (R37, R47, R196). -/
def State.succeed (s : State) (v : OkValue) : State := { s with fsm := .idle, out := .ok v }

/-- `raise K(info)`, the entry into an error (R329): OUT holds the error, STATE is IDLE, nothing else changes. -/
def State.fail (s : State) (info : Info) : State := { s with fsm := .idle, out := .err info }

/-- `refuse(reason)` (R325): OUT holds the refusal, REFUSED_MARK is set, nothing else changes. -/
def State.refuse (s : State) (reason : RefusalReason) : State := { s with out := .refused reason, refusedMark := true }

/-- An operation other than an unassigned code is refused with BUSY while an EXCHANGE runs (R326, R327). -/
def State.whenIdle (s : State) (body : State → State) : State := if s.fsm = .idle then body s else s.refuse .busy

/-! ### The CRC unit -/

/-- The CRC unit computes the CRC of `body`; its working register holds the result afterwards (R46; log 11). -/
def State.useCrc (s : State) (body : Bytes) : State := { s with crc := crc16 body }

/-- The CRC unit's part in PARSE: it is used when the length check passes (R170). -/
def State.useCrcToParse (s : State) (f : Bytes) : State :=
  if f.length < Config.minFrame then s else s.useCrc (checkedPart f)

/-! ### Transport primitives -/

/-- What a transport primitive does: it returns a value, or it fails with an I/O error (R78). -/
inductive TransportResult (α : Type) where
  | returned (v : α) (s : State)
  | ioError (s : State)

/-- The environment's next answer: the next scripted one, or a free value (R342; log 5). -/
def State.nextDraw (s : State) : Draw :=
  match s.inputs with
  | d :: _ => d
  | [] => Config.freeDraw s.drawCount

/-- A call of a primitive reaches the transport: the call is recorded, the bytes that arrived join PENDING (R72), and
the environment's answer is used up. -/
def State.callTransport (s : State) (c : TransportCall) : State :=
  { s with
    calls := s.calls ++ [c]
    pending := s.pending ++ s.nextDraw.arrivals
    inputs := s.inputs.tail
    drawCount := if s.inputs = [] then s.drawCount + 1 else s.drawCount }

/-- `T.open(kind, params)` (R243). -/
def transportOpen (kind : TransportKind) (params : OpenParams) (s : State) : TransportResult Unit :=
  if s.nextDraw.fails then .ioError (s.callTransport (.connect kind params))
  else .returned () (s.callTransport (.connect kind params))

/-- `T.close()` always completes (R252). -/
def transportClose (s : State) : State := { s with calls := s.calls ++ [.release] }

/-- `T.discard()`: PENDING is emptied (R73). -/
def transportDiscard (s : State) : TransportResult Unit :=
  if s.nextDraw.fails then .ioError (s.callTransport .discard)
  else .returned () { s.callTransport .discard with pending := [] }

/-- `T.write(bytes)`: the whole string joins the transmit stream; the count returned is any number (R71, R74). -/
def transportWrite (bytes : Bytes) (s : State) : TransportResult Nat :=
  if s.nextDraw.fails then .ioError (s.callTransport (.write bytes))
  else .returned s.nextDraw.count { s.callTransport (.write bytes) with tx := s.tx ++ bytes }

/-- How many bytes a `T.read(max)` returns: the number drawn, cut to `max` and to what is pending (R75). -/
def readLength (s : State) (max : Nat) : Nat :=
  min s.nextDraw.count (min max (s.pending.length + s.nextDraw.arrivals.length))

/-- `T.read(max)`: a front part of PENDING, removed from it (R75). With `max = 0` it returns the empty string (R76). -/
def transportRead (max : Nat) (s : State) : TransportResult Bytes :=
  if s.nextDraw.fails then .ioError (s.callTransport (.read max))
  else .returned ((s.pending ++ s.nextDraw.arrivals).take (readLength s max))
    { s.callTransport (.read max) with pending := (s.pending ++ s.nextDraw.arrivals).drop (readLength s max) }

/-- `T.avail()`: any natural number; PENDING keeps its bytes (R77). -/
def transportAvail (s : State) : TransportResult Nat :=
  if s.nextDraw.fails then .ioError (s.callTransport .avail)
  else .returned s.nextDraw.count (s.callTransport .avail)

end Sys2Proof.Machine
end

