-- ==== Sys2Proof/Machine/Operands.lean ====
section
/-!
DEFINITION. Operand checks: BUILD's ranges (41_frame_codec.md R161), CONFIGURE's address (43_lifecycle.md R241) and other
parameters (R242), and the 8-bit latches of EXCHANGE (10_state.md R39).
-/
namespace Sys2Proof.Machine

open Sys2Proof

/-- `check_ranges(a, c, d)` (R161): the first check that fails, in the order address, command, data. -/
def checkRanges (a c : Int) (d : List Int) : Option Reason :=
  if !inByte a then some .addrRange
  else if !inByte c then some .cmdRange
  else if !d.all inByte then some .dataRange
  else none

/-- BUILD (R160): the frame, or the reason of the INVALID_ARGUMENT. -/
def buildRequest (a c : Int) (d : List Int) : Except Reason Bytes :=
  match checkRanges a c d with
  | some r => .error r
  | none => .ok (frame (toByte a) (toByte c) (d.map toByte))

/-- The body BUILD's CRC is computed over. -/
def requestBody (a c : Int) (d : List Int) : Bytes := frameBody (toByte a) (toByte c) (d.map toByte)

/-- What an 8-bit latch holds of an integer operand: the integer, or a free value where it does not fit (R39; log 8). -/
def latchByte (z : Int) : Byte := if inByte z then toByte z else Config.freeLatch z

/-- Is a number an integer? -/
def isInteger (q : Rat) : Bool := decide (q.den = 1)

/-- An ASCII decimal digit. -/
def isDigit (b : Byte) : Bool := decide (0x30 ≤ b.toNat) && decide (b.toNat ≤ 0x39)

/-- The base-10 value of digits. -/
def decimalValue (t : Text) : Nat := t.foldl (fun v b => 10 * v + (b.toNat - 0x30)) 0

/-- `decode_address(x)` (R241). -/
def decodeAddress (x : HostValue) : Except Reason Byte :=
  match x with
  | .num q =>
    if isInteger q then
      if inByte q.num then .ok (toByte q.num) else .error .addrRange
    else .error .addrText
  | .text t =>
    if t.isEmpty then .error .addrText
    else if t.all isDigit then
      if decimalValue t ≤ 255 then .ok (BitVec.ofNat 8 (decimalValue t)) else .error .addrRange
    else .error .addrText
  | .other => .error .addrText

/-- The text "serial". -/
def kindSerialText : Text := [0x73, 0x65, 0x72, 0x69, 0x61, 0x6C]

/-- The text "tcp". -/
def kindTcpText : Text := [0x74, 0x63, 0x70]

/-- The transport kind of CONFIGURE's operand (R242; log 27). -/
def decodeKind (k : KindArg) : Except Reason TransportKind :=
  match k with
  | .serial => .ok .serial
  | .tcp => .ok .tcp
  | .named name =>
    if name = kindSerialText then .ok .serial
    else if name = kindTcpText then .ok .tcp
    else .error .badKind

/-- The retry count of CONFIGURE's operand (R242): an integer that is not negative. -/
def decodeRetries (x : HostValue) : Except Reason Nat :=
  match x with
  | .num q => if isInteger q && decide (0 ≤ q.num) then .ok q.num.toNat else .error .retriesRange
  | .text _ => .error .retriesRange
  | .other => .error .retriesRange

/-- The timeout of CONFIGURE's operand (R242): not negative. -/
def decodeTimeout (t : Rat) : Except Reason Rat := if t.num < 0 then .error .timeoutRange else .ok t

/-- The configuration CONFIGURE's operands give. -/
structure Configuration where
  addr : Byte
  kind : TransportKind
  retries : Nat
  timeout : Rat
deriving DecidableEq, Repr

/-- CONFIGURE's validation in its order: address, kind, retries, timeout (R240 to R242). -/
def checkConfig (kind : KindArg) (address : HostValue) (timeout : Rat) (retries : HostValue) :
    Except Reason Configuration :=
  match decodeAddress address with
  | .error r => .error r
  | .ok a =>
    match decodeKind kind with
    | .error r => .error r
    | .ok k =>
      match decodeRetries retries with
      | .error r => .error r
      | .ok n =>
        match decodeTimeout timeout with
        | .error r => .error r
        | .ok t => .ok ⟨a, k, n, t⟩

end Sys2Proof.Machine
end

