-- ==== Sys2Proof/Machine/Codec.lean ====
section
/-!
DEFINITION. The pure operations CHECKSUM, BUILD and PARSE (40_crc.md R146, 41_frame_codec.md R160 and R170). They run in
every LC state.
-/
namespace Sys2Proof.Machine

open Sys2Proof

/-- CHECKSUM (R146). -/
def runChecksum (bytes : Bytes) (s : State) : State := (s.useCrc bytes).succeed (.checksum (crc16 bytes))

/-- BUILD (R160). -/
def runBuild (a c : Int) (d : List Int) (s : State) : State :=
  match buildRequest a c d with
  | .error r => s.fail { reason := r }
  | .ok f => (s.useCrc (requestBody a c d)).succeed (.frame f)

/-- PARSE (R170). Its error record holds the frame parsed (R322). -/
def runParse (f : Bytes) (expect : Option Int) (s : State) : State :=
  match parseFrame f expect with
  | .error r => (s.useCrcToParse f).fail { reason := r.toReason, raw := some f }
  | .ok (a, c, p) => (s.useCrcToParse f).succeed (.parsed a c p)

/-- The meaning of CHECKSUM. -/
def execChecksum (bytes : Bytes) (s : State) : Host.Outcome State Fault Refusal := .next (s.whenIdle (runChecksum bytes))

/-- The meaning of BUILD. -/
def execBuild (a c : Int) (d : List Int) (s : State) : Host.Outcome State Fault Refusal :=
  .next (s.whenIdle (runBuild a c d))

/-- The meaning of PARSE. -/
def execParse (f : Bytes) (expect : Option Int) (s : State) : Host.Outcome State Fault Refusal :=
  .next (s.whenIdle (runParse f expect))

end Sys2Proof.Machine
end

