-- ==== Sys2Proof/Machine/Flags.lean ====
section
/-!
DEFINITION. The private flags of EXCHANGE, ALLSHORT and LASTPE, with LASTERR beside them (10_state.md R43 to R45). The
block has no flags a host can see (R49).
-/
namespace Sys2Proof.Machine

/-- What EXCHANGE initialises when its build succeeds (42_exchange.md R193). -/
def State.initAttempts (s : State) : State :=
  { s with att := 0, allShort := true, lastErr := none, lastPe := false, lastRaw := [] }

/-- A short attempt: LASTPE is cleared, LASTERR kept (R200). -/
def State.noteShort (s : State) : State := { s with lastPe := false }

/-- An attempt with at least four bytes: ALLSHORT is cleared (R200). -/
def State.noteLong (s : State) : State := { s with allShort := false }

/-- A parse failure: LASTERR holds its reason, LASTPE is set (R202). -/
def State.noteParseError (s : State) (r : ParseReason) : State := { s with lastErr := some r, lastPe := true }

end Sys2Proof.Machine
end

