-- ==== Sys2Proof/Machine/Exchange.lean ====
section
/-!
DEFINITION. The exchange controller: the transitions of 42_exchange.md R196, one function per value of STATE, and
EXCHANGE, which runs them from BUILD until STATE is IDLE again (R190).
-/
namespace Sys2Proof.Machine

open Sys2Proof

/-- An I/O error ends EXCHANGE at the primitive that failed (R203). `attempts` is the attempt in progress. -/
def State.abort (s : State) (reason : Reason) (raw : Bytes) : State :=
  s.fail { reason, address := some s.addr, command := some s.cmd, attempts := some (s.att + 1), raw := some raw }

/-- The next attempt while attempts remain, else the classification (R194, R196). -/
def State.nextAttempt (s : State) : State :=
  { s with fsm := if s.att < s.retries + 1 then .discard else .classify }

/-- The end of the receive phase (R199): LASTRAW and ATT. -/
def State.endReceive (s : State) : State := { s with lastRaw := s.rx, att := s.att + 1, fsm := .checkLen }

/-- BUILD (R192, R193, R196): the request frame from ADDR and the operands. -/
def fsmBuild (s : State) : State :=
  match buildRequest (byteInt s.addr) s.opCmd s.opData with
  | .error r => s.fail { reason := r }
  | .ok f =>
    { ((s.useCrc (requestBody (byteInt s.addr) s.opCmd s.opData)).initAttempts) with req := f, fsm := .discard }

/-- DISCARD (R197). -/
def fsmDiscard (s : State) : State :=
  match transportDiscard s with
  | .ioError t => t.abort .ioDiscard []
  | .returned _ t => { t with fsm := .write }

/-- WRITE (R198); RX is cleared for the receive phase (R199). The count is not checked. -/
def fsmWrite (s : State) : State :=
  match transportWrite s.req s with
  | .ioError t => t.abort .ioWrite []
  | .returned _ t => { t with rx := [], fsm := .readHead }

/-- READ_HEAD (R199). -/
def fsmReadHead (s : State) : State :=
  match transportRead s.minlen s with
  | .ioError t => t.abort .ioRead []
  | .returned r t => { t with rx := r, fsm := .pollAvail }

/-- POLL_AVAIL (R199). -/
def fsmPollAvail (s : State) : State :=
  match transportAvail s with
  | .ioError t => t.abort .ioAvail t.rx
  | .returned n t =>
    if 0 < n then { t with availN := n, fsm := .readTail } else ({ t with availN := n }).endReceive

/-- READ_TAIL (R199). -/
def fsmReadTail (s : State) : State :=
  match transportRead s.availN s with
  | .ioError t => t.abort .ioRead t.rx
  | .returned r t => ({ t with rx := t.rx ++ r }).endReceive

/-- CHECK_LEN (R200). -/
def fsmCheckLen (s : State) : State :=
  if s.rx.length < Config.minFrame then s.noteShort.nextAttempt else { s.noteLong with fsm := .parse }

/-- PARSE (R201, R202): success ends EXCHANGE, a failure is retained and the next attempt follows. -/
def fsmParse (s : State) : State :=
  match parseFrame s.rx (some (byteInt s.addr)) with
  | .ok (_, rc, p) => (s.useCrcToParse s.rx).succeed (.response rc p)
  | .error r => ((s.useCrcToParse s.rx).noteParseError r).nextAttempt

/-- CLASSIFY (R205 to R209), the tests in their order. -/
def fsmClassify (s : State) : State :=
  if s.allShort then
    s.fail { reason := .silent, address := some s.addr, command := some s.cmd, attempts := some s.att }
  else if s.lastPe then
    s.fail { reason := .finalParse, address := some s.addr, command := some s.cmd, attempts := some s.att,
             raw := some s.lastRaw, cause := s.lastErr }
  else if s.lastErr ≠ none then
    s.fail { reason := .retainedParse, address := some s.addr, command := some s.cmd, attempts := some s.att,
             raw := some s.lastRaw, cause := s.lastErr }
  else
    s.fail { reason := .fallback, address := some s.addr, command := some s.cmd, attempts := some s.att,
             raw := some s.lastRaw }

/-- One transition of the exchange controller (R196). In IDLE nothing moves. -/
def fsmStep (s : State) : State :=
  match s.fsm with
  | .idle => s
  | .build => fsmBuild s
  | .discard => fsmDiscard s
  | .write => fsmWrite s
  | .readHead => fsmReadHead s
  | .pollAvail => fsmPollAvail s
  | .readTail => fsmReadTail s
  | .checkLen => fsmCheckLen s
  | .parse => fsmParse s
  | .classify => fsmClassify s

/-- Transitions until STATE is IDLE, `n` at most. -/
def runFsm (n : Nat) (s : State) : State :=
  match n with
  | 0 => s
  | k + 1 => if s.fsm = .idle then s else runFsm k (fsmStep s)

/-- A bound on the transitions of one EXCHANGE (R212): one build, seven per attempt, one classification. -/
def exchangeBound (s : State) : Nat := 7 * (s.retries + 1) + 2

/-- The first transition (R190, R196): the operands are latched and STATE is BUILD. -/
def State.latchExchange (s : State) (c : Int) (d : List Int) (m : Nat) : State :=
  { s with
    fsm := .build
    cmd := latchByte c
    data := d.map latchByte
    minlen := m
    opCmd := c
    opData := d }

/-- EXCHANGE (R190, R191) from IDLE to IDLE. -/
def runExchange (c : Int) (d : List Int) (m : Nat) (s : State) : State :=
  if s.lc = .opened then runFsm (exchangeBound s) (s.latchExchange c d m) else s.refuse .notOpen

/-- EXCHANGE with the check that no operation runs (R326, R327). -/
def exchange (c : Int) (d : List Int) (m : Nat) (s : State) : State := s.whenIdle (runExchange c d m)

/-- The meaning of EXCHANGE. -/
def execExchange (c : Int) (d : List Int) (m : Nat) (s : State) : Host.Outcome State Fault Refusal :=
  .next (exchange c d m s)

end Sys2Proof.Machine
end

