-- ==== Sys2Proof/Machine/HostDecoders.lean ====
section
/-!
DEFINITION. The payload decoders of the host profile (47_host_profile.md R264 to R273, R280), pure functions, each an
ordered table of branches (R282).
-/
namespace Sys2Proof.Machine

open Sys2Proof

/-- READ_NETADDR's check and value (R264). -/
def netaddrOf (p : Bytes) : Except Reason Byte :=
  match p with
  | [] => .error .shortPayload
  | b :: _ => .ok b

/-- READ_VERSION's branches (R266): three bytes or more, exactly two, else undetermined. -/
def versionOf (rc : Byte) (p : Bytes) : Option Version :=
  match p with
  | b0 :: b1 :: b2 :: _ => some ⟨b0, b1, b2⟩
  | [b0, b1] => some ⟨rc, b0, b1⟩
  | [_] => none
  | [] => none

/-- READ_RATIOS (R267, R270): both ratios or neither, and the raw payload always. -/
def ratiosOf (p : Bytes) : Ratios :=
  match p with
  | b0 :: b1 :: b2 :: _ => ⟨some (le16 b0 b1), some b2, p⟩
  | [_, _] => ⟨none, none, p⟩
  | [_] => ⟨none, none, p⟩
  | [] => ⟨none, none, p⟩

/-- An ASCII decimal digit of a number below 10. -/
def digit (n : Nat) : Byte := BitVec.ofNat 8 (0x30 + n)

/-- The decimal form of a byte, zero-padded to at least two digits (R271). -/
def decimalTwo (b : Byte) : Text :=
  if b.toNat < 100 then [digit (b.toNat / 10), digit (b.toNat % 10)]
  else [digit (b.toNat / 100), digit (b.toNat / 10 % 10), digit (b.toNat % 10)]

/-- `SERIAL(rc, p)` (R271): undetermined for fewer than three payload bytes. -/
def serialText (rc : Byte) (p : Bytes) : Option Text :=
  match p with
  | b0 :: b1 :: b2 :: _ => some (decimalTwo rc ++ (decimalTwo b0 ++ (decimalTwo b1 ++ decimalTwo b2)))
  | [_, _] => none
  | [_] => none
  | [] => none

/-- A Gregorian leap year (R273). -/
def isLeapYear (y : Nat) : Bool := decide (y % 4 = 0) && (!decide (y % 100 = 0) || decide (y % 400 = 0))

/-- `days(y, m)` (R273); 0 for a month that does not exist. -/
def daysInMonth (y m : Nat) : Nat :=
  match m with
  | 1 | 3 | 5 | 7 | 8 | 10 | 12 => 31
  | 4 | 6 | 9 | 11 => 30
  | 2 => if isLeapYear y then 29 else 28
  | _ => 0

/-- `valid_date(y, m, d)` (R273). -/
def validDate (y m d : Nat) : Bool :=
  (decide (1 ≤ m) && decide (m ≤ 12)) && (decide (1 ≤ d) && decide (d ≤ daysInMonth y m))

/-- `BUILD_DATE(p)` (R272): day, month, year less 2000 in the last three bytes; `none` is unknown. -/
def buildDate (p : Bytes) : Option Date :=
  match p.reverse with
  | yy :: mm :: dd :: _ =>
    if validDate (2000 + yy.toNat) mm.toNat dd.toNat then some ⟨2000 + yy.toNat, mm.toNat, dd.toNat⟩ else none
  | [_, _] => none
  | [_] => none
  | [] => none

/-- `DECODE(rc, blk)` (R280), the branches in their order: the length check, the zero case, the tariff-2 shape, the
dominant pattern. -/
def decodeEnergy (rc : Byte) (blk : Bytes) : Except Reason Nat :=
  match blk with
  | [b0, b1, b2, b3] =>
    if rc = 0 ∧ b0 = 0 ∧ b1 = 0 ∧ b2 = 0 ∧ b3 = 0 then .ok 0
    else if rc = 0 ∧ b0 = 0 ∧ b1 = 0 ∧ b3 ≠ 0xFF then .ok (b3.toNat <<< 8 ||| b2.toNat)
    else .ok (rc.toNat <<< 16 ||| (b2.toNat <<< 8 ||| b1.toNat))
  | _ => .error .badBlockLen

/-- READ_ENERGY's check and decoding (R276): active from `p[0..4)`, reactive from `p[8..12)`. -/
def energyOf (rc : Byte) (p : Bytes) : Except Reason EnergyReading :=
  if p.length < 12 then .error .shortPayload
  else
    match decodeEnergy rc (p.take 4), decodeEnergy rc ((p.drop 8).take 4) with
    | .ok active, .ok reactive => .ok ⟨active, reactive, p⟩
    | .error r, _ => .error r
    | .ok _, .error r => .error r

/-- The register index of a tariff label (R277). -/
def TariffLabel.index (l : TariffLabel) : Int :=
  match l with
  | .sum => 0
  | .t1 => 1
  | .t2 => 2
  | .t3 => 3
  | .t4 => 4
  | .loss => 5

/-- The labels in ascending order of their index (R277). -/
def tariffLabels : List TariffLabel := [.sum, .t1, .t2, .t3, .t4, .loss]

/-- `EnergyFromReset` of the readings of a group (R281). -/
def energyFromReset (rs : List (TariffLabel × EnergyReading)) : EnergyFromReset where
  active := rs.map fun (l, r) => (l, r.active)
  reactive := rs.map fun (l, r) => (l, r.reactive)
  raw := rs.map fun (l, r) => (l, r.raw)

/-- Is a response kept raw in PassportData? The info and ratios payloads always are, the others as the parameter says
(R269, 92_eei_decisions.md D32). -/
def PassportParams.keeps (ps : PassportParams) (b : PassportBlock) : Bool :=
  match b with
  | .info | .ratios => true
  | .testLink | .openSession | .netaddr | .version => decide (b ∈ ps.keep)

/-- `PassportData` from the six responses, in the order of R268 (R268, R269). DESIGN CHOICE (log 13): a position of the raw
serial that the info response does not reach is left out, so a short response gives a shorter raw serial. -/
def passportOf (ps : PassportParams) (na : Byte) (info version ratios : Byte × Bytes) (responses : List RawBlock) :
    PassportData where
  serialRaw := ps.serialBytes.filterMap fun n => (info.1 :: info.2)[n]?
  serial := serialText info.1 info.2
  date := buildDate info.2
  version := versionOf version.1 version.2
  voltage := (ratiosOf ratios.2).voltage
  current := (ratiosOf ratios.2).current
  rawBlocks := responses.filter fun r => ps.keeps r.block
  netaddr := if ps.keepNetaddr then some na else none

end Sys2Proof.Machine
end

