-- ==== Sys2Proof/Machine/HostProfile.lean ====
section
/-!
DEFINITION. The host operations that have a row in the opcode table (47_host_profile.md R262 to R267, R275, R276): each
is one EXCHANGE and the host-side checks after it. They are the host's, not the block's (R6); what the block does in them
is EXCHANGE and nothing else.
-/
namespace Sys2Proof.Machine

open Sys2Proof

/-- What a piece of the host profile gives: a value, or the outcome the host operation stops with; and the state. -/
abbrev HostStep (α : Type) := Except Out α × State

/-- Do one piece and then the next; a piece that stops ends the host operation with the same outcome (R260). -/
def hostThen {α β : Type} (x : HostStep α) (next : α → State → HostStep β) : HostStep β :=
  match x with
  | (.ok a, s) => next a s
  | (.error o, s) => (.error o, s)

/-- A host-side check: its error record holds the reason alone (R322). -/
def hostCheck {α : Type} (x : Except Reason α) (s : State) : HostStep α :=
  match x with
  | .ok a => (.ok a, s)
  | .error r => (.error (.err { reason := r }), s)

/-- What the host reads in OUT after an EXCHANGE: response command and payload, or the outcome to stop with (R260). -/
def exchangeResult (o : Out) : Except Out (Byte × Bytes) :=
  match o with
  | .ok (.response rc p) => .ok (rc, p)
  | .ok v => .error (.ok v)
  | .err info => .error (.err info)
  | .refused r => .error (.refused r)

/-- One EXCHANGE issued by the host, and its result. -/
def hostExchange (c : Int) (d : List Int) (m : Nat) (s : State) : HostStep (Byte × Bytes) :=
  (exchangeResult (exchange c d m s).out, exchange c d m s)

/-- The end of a host operation: its result is kept for the host. -/
def hostEnd {α : Type} (x : HostStep α) (result : α → HostResult) : State :=
  match x with
  | (.ok a, s) => { s with hostOut := .ok (result a) }
  | (.error o, s) => { s with hostOut := .stopped o }

/-! ### The exchanges -/

/-- The exchange of TEST_LINK (R262). -/
def hostTestLink (s : State) : HostStep (Byte × Bytes) := hostExchange 0x00 [] s.hostMin.test s

/-- OPEN_SESSION's password check and exchange (R263). -/
def hostOpenSession (lvl : Int) (pw : List Int) (s : State) : HostStep (Byte × Bytes) :=
  if pw.length = 6 then hostExchange 0x01 (lvl :: pw) s.hostMin.openSession s
  else hostCheck (.error .passwordLen) s

/-- The exchange of READ_NETADDR (R264). -/
def hostReadNetaddr (s : State) : HostStep (Byte × Bytes) := hostExchange 0x08 [0x05] s.hostMin.netaddr s

/-- The exchange of READ_INFO (R265). -/
def hostReadInfo (s : State) : HostStep (Byte × Bytes) := hostExchange 0x08 [0x00] s.hostMin.info s

/-- The exchange of READ_VERSION (R266). -/
def hostReadVersion (s : State) : HostStep (Byte × Bytes) := hostExchange 0x08 [0x03] s.hostMin.version s

/-- The exchange of READ_RATIOS (R267). -/
def hostReadRatios (s : State) : HostStep (Byte × Bytes) := hostExchange 0x08 [0x02] s.hostMin.ratios s

/-- The exchange that unlocks the energy archive (R275). -/
def hostUnlock (s : State) : HostStep (Byte × Bytes) := hostExchange 0x08 [0x12] s.hostMin.unlock s

/-- READ_ENERGY's exchange, check and decoding (R276). -/
def hostReadEnergy (group index : Int) (s : State) : HostStep EnergyReading :=
  hostThen (hostExchange 0x05 [group, index] s.hostMin.energy s) fun (rc, p) t => hostCheck (energyOf rc p) t

/-! ### The meanings -/

/-- TEST_LINK (R262): the content of the response is ignored. -/
def execTestLink (s : State) : Host.Outcome State Fault Refusal := .next (hostEnd (hostTestLink s) fun _ => .unit)

/-- OPEN_SESSION (R263): the content of the response is not inspected. -/
def execOpenSession (lvl : Int) (pw : List Int) (s : State) : Host.Outcome State Fault Refusal :=
  .next (hostEnd (hostOpenSession lvl pw s) fun _ => .unit)

/-- READ_ENERGY (R276). -/
def execReadEnergy (group index : Int) (s : State) : Host.Outcome State Fault Refusal :=
  .next (hostEnd (hostReadEnergy group index s) .energy)

/-- READ_INFO (R265). -/
def execReadInfo (s : State) : Host.Outcome State Fault Refusal :=
  .next (hostEnd (hostReadInfo s) fun (rc, p) => .infoBlock rc p)

/-- READ_RATIOS (R267). -/
def execReadRatios (s : State) : Host.Outcome State Fault Refusal :=
  .next (hostEnd (hostReadRatios s) fun (_, p) => .ratios (ratiosOf p))

/-- READ_VERSION (R266). -/
def execReadVersion (s : State) : Host.Outcome State Fault Refusal :=
  .next (hostEnd (hostReadVersion s) fun (rc, p) => .version (versionOf rc p))

/-- READ_NETADDR (R264). -/
def execReadNetaddr (s : State) : Host.Outcome State Fault Refusal :=
  .next (hostEnd (hostThen (hostReadNetaddr s) fun (_, p) t => hostCheck (netaddrOf p) t) .netaddr)

/-- UNLOCK_ARCHIVE (R275): the result content is ignored. -/
def execUnlockArchive (s : State) : Host.Outcome State Fault Refusal := .next (hostEnd (hostUnlock s) fun _ => .unit)

end Sys2Proof.Machine
end

