-- ==== Sys2Proof/Machine/Lifecycle.lean ====
section
/-!
DEFINITION. CONFIGURE and CLOSE (43_lifecycle.md R240 to R253) and the unassigned op codes (30_encoding.md R113).
-/
namespace Sys2Proof.Machine

open Sys2Proof

/-- The registers CONFIGURE writes when the open succeeds (R240). -/
def State.loadConfig (s : State) (c : Configuration) (params : OpenParams) : State :=
  { s with
    addr := c.addr
    retries := c.retries
    timeout := c.timeout
    kind := c.kind
    params := params
    lc := .opened }

/-- CONFIGURE (R240): lifecycle, operands, then the open. -/
def runConfigure (kind : KindArg) (address : HostValue) (timeout : Rat) (retries : HostValue) (params : OpenParams)
    (s : State) : State :=
  if s.lc = .unconfigured then
    match checkConfig kind address timeout retries with
    | .error r => s.fail { reason := r }
    | .ok c =>
      match transportOpen c.kind params s with
      | .ioError t => t.fail { reason := .ioOpen }
      | .returned _ t => (t.loadConfig c params).succeed .unit
  else s.refuse .alreadyConfigured

/-- CLOSE (R250): effective once, in LC = OPEN; OK(unit) in every LC state. -/
def runClose (s : State) : State :=
  if s.lc = .opened then ({ transportClose s with lc := .closed }).succeed .unit else s.succeed .unit

/-- The meaning of CONFIGURE. -/
def execConfigure (kind : KindArg) (address : HostValue) (timeout : Rat) (retries : HostValue) (params : OpenParams)
    (s : State) : Host.Outcome State Fault Refusal :=
  .next (s.whenIdle (runConfigure kind address timeout retries params))

/-- The meaning of CLOSE. -/
def execClose (s : State) : Host.Outcome State Fault Refusal := .next (s.whenIdle runClose)

/-- The meaning of an unassigned op code: refused with ILLEGAL_OP, ahead of BUSY (R113, R327). -/
def execReservedOp (s : State) : Host.Outcome State Fault Refusal := .next (s.refuse .illegalOp)

end Sys2Proof.Machine
end

