-- ==== Sys2Proof/Machine/Dispatch.lean ====
section
/-!
DEFINITION. One arm per operation: a direct call of its meaning.
-/
namespace Sys2Proof.Machine

open Sys2Proof

def exec (i : Instr) (s : State) : Host.Outcome State Fault Refusal :=
  match i with
  | .configure kind address timeout retries params => Sys2Proof.Machine.execConfigure kind address timeout retries params s
  | .checksum bytes => Sys2Proof.Machine.execChecksum bytes s
  | .build a c d => Sys2Proof.Machine.execBuild a c d s
  | .parse f expect => Sys2Proof.Machine.execParse f expect s
  | .exchange c d m => Sys2Proof.Machine.execExchange c d m s
  | .close => Sys2Proof.Machine.execClose s
  | .reservedOp _ => Sys2Proof.Machine.execReservedOp s
  | .testLink => Sys2Proof.Machine.execTestLink s
  | .openSession lvl pw => Sys2Proof.Machine.execOpenSession lvl pw s
  | .readEnergy group index => Sys2Proof.Machine.execReadEnergy group index s
  | .readInfo => Sys2Proof.Machine.execReadInfo s
  | .readRatios => Sys2Proof.Machine.execReadRatios s
  | .readVersion => Sys2Proof.Machine.execReadVersion s
  | .readNetaddr => Sys2Proof.Machine.execReadNetaddr s
  | .unlockArchive => Sys2Proof.Machine.execUnlockArchive s

end Sys2Proof.Machine
end

