-- ==== Sys2Proof/Machine/Fetch.lean ====
section
/-!
DEFINITION. Taking the next request from the host's list (60_exceptions.md R340, R341).
-/
namespace Sys2Proof.Machine

open Sys2Proof

/-- What the host presents next. -/
inductive Fetched where
  /-- Nothing: the block idles (R339). -/
  | nothing
  /-- One operation. -/
  | operation (i : Instr)
  /-- A pseudo-operation without a row of its own. -/
  | sequence (q : Sequence)
  /-- Bytes, a frame or a code that the interface gives no meaning (log 24). -/
  | malformed (e : DecodeError)
deriving DecidableEq, Repr

/-- A request as what it asks for. -/
def fetchRequest (r : Request) : Fetched :=
  match r with
  | .sequence q => .sequence q
  | .transaction _ | .wire _ | .call _ =>
    match decode r with
    | .ok i => .operation i
    | .error e => .malformed e

/-- The request at the front of the host's list. -/
def fetch (s : State) : Fetched :=
  match s.requests with
  | [] => .nothing
  | r :: _ => fetchRequest r

/-- The state in which the request is run: it has left the list. -/
def State.popRequest (s : State) : State := { s with requests := s.requests.tail }

/-- A request that has no meaning is refused and has no other effect (R10, R325). DESIGN CHOICE (log 24): the reason is
ILLEGAL_OP, the one R113 gives a code without a meaning. -/
def refuseMalformed (s : State) : Host.Outcome State Fault Refusal := .next (s.refuse .illegalOp)

end Sys2Proof.Machine
end

