-- ==== Sys2Proof/Machine/HostSequences.lean ====
section
/-!
DEFINITION. The pseudo-operations that have no row in the opcode table (30_encoding.md R115, 47_host_profile.md R268,
R275, R277 to R279). Each is its expansion into exchanges; a failure of one ends the whole (R260).
-/
namespace Sys2Proof.Machine

open Sys2Proof

/-- PREPARE_ENERGY (R275): open the energy session, unlock the archive. -/
def hostPrepareEnergy (s : State) : HostStep (Byte × Bytes) :=
  hostThen (hostOpenSession 0x01 [0x01, 0x01, 0x01, 0x01, 0x01, 0x01] s) fun _ t => hostUnlock t

/-- The register reads of one group, in the order of the labels given (R277). -/
def hostReadGroup (group : Int) (labels : List TariffLabel) (s : State) : HostStep (List (TariffLabel × EnergyReading)) :=
  match labels with
  | [] => (.ok [], s)
  | l :: rest =>
    hostThen (hostReadEnergy group l.index s) fun r t =>
      hostThen (hostReadGroup group rest t) fun rs u => (.ok ((l, r) :: rs), u)

/-- The six register reads of one group as one value (R277, R281). -/
def hostReadSet (group : Int) (s : State) : HostStep EnergyFromReset :=
  hostThen (hostReadGroup group tariffLabels s) fun rs t => (.ok (energyFromReset rs), t)

/-- READ_ENERGY_RESET (R277). -/
def hostEnergyReset (s : State) : HostStep EnergyFromReset :=
  hostThen (hostPrepareEnergy s) fun _ t => hostReadSet 0x00 t

/-- READ_ENERGY_MONTH m (R278): the month is checked before anything is sent. -/
def hostEnergyMonth (m : Int) (s : State) : HostStep EnergyFromReset :=
  if 1 ≤ m ∧ m ≤ 12 then hostThen (hostPrepareEnergy s) fun _ t => hostReadSet (0x30 + m) t
  else hostCheck (.error .monthRange) s

/-- The register reads of a list of months (R279). -/
def hostReadMonths (months : List Int) (s : State) : HostStep (List EnergyFromReset) :=
  match months with
  | [] => (.ok [], s)
  | m :: rest =>
    hostThen (hostReadSet (0x30 + m) s) fun e t =>
      hostThen (hostReadMonths rest t) fun es u => (.ok (e :: es), u)

/-- The twelve months in ascending order (R279). -/
def months : List Int := [1, 2, 3, 4, 5, 6, 7, 8, 9, 10, 11, 12]

/-- READ_ENERGY_ALL (R279): one preparation, then twelve groups of six reads. -/
def hostEnergyAll (s : State) : HostStep (List EnergyFromReset) :=
  hostThen (hostPrepareEnergy s) fun _ t => hostReadMonths months t

/-- READ_PASSPORT (R268): six exchanges in their order, then the decoders. -/
def hostPassport (s : State) : HostStep PassportData :=
  hostThen (hostTestLink s) fun link s1 =>
  hostThen (hostOpenSession 0x02 [0x02, 0x02, 0x02, 0x02, 0x02, 0x02] s1) fun session s2 =>
  hostThen (hostReadNetaddr s2) fun addrResponse s3 =>
  hostThen (hostCheck (netaddrOf addrResponse.2) s3) fun na s4 =>
  hostThen (hostReadInfo s4) fun info s5 =>
  hostThen (hostReadVersion s5) fun version s6 =>
  hostThen (hostReadRatios s6) fun ratios s7 =>
    (.ok (passportOf s7.passportParams na info version ratios
      [⟨.testLink, link.1, link.2⟩, ⟨.openSession, session.1, session.2⟩, ⟨.netaddr, addrResponse.1, addrResponse.2⟩,
       ⟨.info, info.1, info.2⟩, ⟨.version, version.1, version.2⟩, ⟨.ratios, ratios.1, ratios.2⟩]), s7)

/-- A pseudo-operation, run to its end. -/
def runSequence (q : Sequence) (s : State) : State :=
  match q with
  | .readPassport => hostEnd (hostPassport s) .passport
  | .prepareEnergy => hostEnd (hostPrepareEnergy s) fun _ => .unit
  | .readEnergyReset => hostEnd (hostEnergyReset s) .energySet
  | .readEnergyMonth m => hostEnd (hostEnergyMonth m s) .energySet
  | .readEnergyAll => hostEnd (hostEnergyAll s) .energyYear

end Sys2Proof.Machine
end

