-- ==== Sys2Proof/Machine/Step.lean ====
section
/-!
DEFINITION. One step of the machine. While an EXCHANGE runs, one transition of the exchange controller (42_exchange.md
R196); otherwise the host's next request, run to its outcome (60_exceptions.md R326, R340); with no request, nothing
(R339). A request without a meaning is refused (R325).
-/
namespace Sys2Proof.Machine

open Sys2Proof

/-- One step. -/
def step (s : State) : Host.Outcome State Fault Refusal :=
  if s.fsm = .idle then
    match fetch s with
    | .nothing => .next s
    | .operation i => exec i s.popRequest
    | .sequence q => .next (runSequence q s.popRequest)
    | .malformed _ => refuseMalformed s.popRequest
  else .next (fsmStep s)

/-- `s` with the operation whose bits are `w` as the host's next request, and no EXCHANGE running, so that the next step
runs it (log 1). -/
def State.withFetchWord (s : State) (nbits w : Nat) : State :=
  { s with fsm := .idle, requests := tableRequest nbits w :: s.requests }

end Sys2Proof.Machine
end

