-- ==== Sys2Proof/Safety.lean ====
section
/-!
DEFINITION. The terms claims use: what the spec calls a finished run (60_exceptions.md R325, R345), the invariant of the
exchange controller (10_state.md R37 to R45, 42_exchange.md R195, R209, R215), and the ways an environment can answer the
attempts of an EXCHANGE.
-/
namespace Sys2Proof.Machine

open Sys2Proof

/-- The host has met its closing duty: no transport is open (R251, R345). -/
def closingDutyMet (s : State) : Prop := s.lc ≠ .opened

/-- No refusal was met: the premise of every claim about a run (R325). -/
def unmarked (s : State) : Prop := s.refusedMark = false

/-- A run is over: no request is left and no operation runs (R345). -/
def runOver (s : State) : Prop := s.requests = [] ∧ s.fsm = .idle

/-! ### The invariant of the exchange controller -/

/-- The states of an attempt before its receive phase has ended. -/
def receiving (f : FsmState) : Bool :=
  match f with
  | .discard | .write | .readHead | .pollAvail | .readTail => true
  | .idle | .build | .checkLen | .parse | .classify => false

/-- The states of an attempt after its receive phase has ended. -/
def received (f : FsmState) : Bool :=
  match f with
  | .checkLen | .parse | .classify => true
  | .idle | .build | .discard | .write | .readHead | .pollAvail | .readTail => false

/-- What holds of the registers of the exchange controller between any two transitions. -/
structure ExchangeInv (s : State) : Prop where
  /-- STATE is IDLE whenever no EXCHANGE runs, and an EXCHANGE runs only with an open transport (R37, R191). -/
  running_open : s.fsm ≠ .idle → s.lc = .opened
  /-- No attempt was made before the first CONFIGURE. -/
  fresh : s.lc = .unconfigured → s.att = 0
  /-- ATT never exceeds RETRIES + 1 (R38). -/
  att_bound : s.att ≤ s.retries + 1
  /-- An attempt in progress is one of RETRIES + 1 (R194, R195). -/
  att_left : receiving s.fsm = true → s.att ≤ s.retries
  /-- REQ is the frame of ADDR and the operands in every attempt (R40, R215). -/
  req_built : (receiving s.fsm || received s.fsm) = true → buildRequest (byteInt s.addr) s.opCmd s.opData = .ok s.req
  /-- After the receive phase LASTRAW is RX (R42). -/
  raw_current : received s.fsm = true → s.lastRaw = s.rx
  /-- Only strings of at least four bytes are parsed (R174, R200). -/
  parse_long : s.fsm = .parse → Config.minFrame ≤ s.rx.length
  /-- A long attempt that did not succeed left its error (R209). -/
  error_kept : (receiving s.fsm || received s.fsm) = true → s.fsm ≠ .parse → s.allShort = false → s.lastErr ≠ none
  /-- LASTPE is set only together with an error (R45). -/
  flag_error : s.lastPe = true → s.lastErr ≠ none
  /-- The retained error is BAD_CRC or ADDR_MISMATCH (R174, R202). -/
  cause_long : s.lastErr ≠ some .shortFrame
  /-- FALLBACK is never the outcome (R209). -/
  no_fallback : ∀ info, s.out = .err info → info.reason ≠ .fallback

/-! ### What an environment delivers -/

/-- None of these answers is an I/O error. -/
def noneFails (ds : List Draw) : Prop := ∀ d ∈ ds, d.fails = false

/-- The bytes a read takes of what is pending, and what stays (R75): `n` is the number drawn. -/
def splitRead (n max : Nat) (pending : Bytes) : Bytes × Bytes :=
  (pending.take (min n (min max pending.length)), pending.drop (min n (min max pending.length)))

/-- What the receive phase of an attempt collects when the answers to its discard, write, head read, poll and tail read
are these, in this order (R199): the discard empties PENDING, so only what arrives after it counts. -/
def collects (m : Nat) (w h p t : Draw) : Bytes :=
  if p.count = 0 then (splitRead h.count m (w.arrivals ++ h.arrivals)).1
  else
    (splitRead h.count m (w.arrivals ++ h.arrivals)).1 ++
      (splitRead t.count p.count ((splitRead h.count m (w.arrivals ++ h.arrivals)).2 ++ p.arrivals ++ t.arrivals)).1

/-- The next five answers fail nowhere, and as answers to the first attempt of an EXCHANGE with minimum length `m` they
deliver `f`. -/
def repliesWith (s : State) (m : Nat) (f : Bytes) : Prop :=
  ∃ dd w h p t rest, s.inputs = dd :: w :: h :: p :: t :: rest ∧ noneFails [dd, w, h, p, t] ∧ collects m w h p t = f

/-- Answers to one attempt that deliver `f` to a head read of at least that length, and nothing more. -/
def answersWith (f : Bytes) : List Draw :=
  [⟨[], false, 0⟩, ⟨[], false, 0⟩, ⟨f, false, f.length⟩, ⟨[], false, 0⟩]

/-- `f` is a good frame from ADDR, with this response command and payload, and no longer than the head read of an EXCHANGE
with minimum length `m`. -/
def goodReply (s : State) (m : Nat) (f : Bytes) (rc : Byte) (p : Bytes) : Prop :=
  f.length ≤ m ∧ parseFrame f (some (s.addr.toNat : Int)) = .ok (s.addr, rc, p)

/-! ### Attempts -/

/-- The environment's `k`-th answer from here on: a scripted one, or a free value (log 5). -/
def State.answer (s : State) (k : Nat) : Draw :=
  match s.inputs[k]? with
  | some d => d
  | none => Config.freeDraw (s.drawCount + (k - s.inputs.length))

/-- How many answers the first `n` finished attempts of an EXCHANGE use up: discard, write, head read and poll, and the tail
read when the poll answered more than 0 (R199). -/
def attemptStart (s : State) (n : Nat) : Nat :=
  match n with
  | 0 => 0
  | k + 1 => attemptStart s k + (if 0 < (s.answer (attemptStart s k + 3)).count then 5 else 4)

/-- What the poll of attempt `k` answers, attempts counted from 0. -/
def polledIn (s : State) (k : Nat) : Nat := (s.answer (attemptStart s k + 3)).count

/-- The answers to one attempt. `tail` counts only when the poll answers more than 0. -/
structure Attempt where
  discard : Draw
  write : Draw
  head : Draw
  poll : Draw
  tail : Draw
deriving DecidableEq, Repr

/-- The answers an attempt uses up, in the order of its calls. -/
def Attempt.draws (a : Attempt) : List Draw :=
  [a.discard, a.write, a.head, a.poll] ++ (if 0 < a.poll.count then [a.tail] else [])

/-- What the receive phase of an attempt collects, with minimum length `m`. -/
def Attempt.delivers (a : Attempt) (m : Nat) : Bytes := collects m a.write a.head a.poll a.tail

/-- The environment's next answers are those of these attempts, none an I/O error, and then `rest`. -/
def attempted (s : State) (as : List Attempt) (rest : List Draw) : Prop :=
  s.inputs = as.flatMap Attempt.draws ++ rest ∧ ∀ a ∈ as, noneFails a.draws

/-- Why an attempt that received `f` did not succeed: fewer than four bytes are a `shortFrame` here; `none` is a success. -/
def attemptError (addr : Byte) (f : Bytes) : Option ParseReason :=
  match parseFrame f (some (addr.toNat : Int)) with
  | .ok _ => none
  | .error r => some r

/-- The parse failure an attempt that received `f` leaves in LASTERR; fewer than four bytes leave none (R200, R202). -/
def parseFailure (addr : Byte) (f : Bytes) : Option ParseReason := if f.length < 4 then none else attemptError addr f

/-- The last parse failure among attempts that received these strings: what LASTERR then holds (R44). -/
def retainedFailure (addr : Byte) (fs : List Bytes) : Option ParseReason := (fs.filterMap (parseFailure addr)).getLast?

/-- Did the last of these attempts fail to parse? What LASTPE then holds (R45). -/
def lastFailedToParse (addr : Byte) (fs : List Bytes) : Bool :=
  match fs.getLast? with
  | some f => (parseFailure addr f).isSome
  | none => false

/-! ### Outcomes -/

/-- The outcomes EXCHANGE ends in when the transport is open and no operation runs (R214). -/
def exchangeOutcome (o : Out) : Bool :=
  match o with
  | .ok (.response _ _) => true
  | .ok _ => false
  | .err info =>
    match info.reason with
    | .cmdRange | .dataRange | .silent | .ioDiscard | .ioWrite | .ioRead | .ioAvail | .finalParse | .retainedParse => true
    | _ => false
  | .refused _ => false

/-- The outcome is an I/O error of a primitive (R203). -/
def ioOutcome (o : Out) : Bool :=
  match o with
  | .err info =>
    match info.reason with
    | .ioDiscard | .ioWrite | .ioRead | .ioAvail => true
    | _ => false
  | .ok _ | .refused _ => false

/-- The calls of one finished attempt (R213): `n` is what the poll answered. -/
def attemptCalls (req : Bytes) (m n : Nat) : List TransportCall :=
  [.discard, .write req, .read m, .avail] ++ (if 0 < n then [.read n] else [])

/-- The calls of the first `n` finished attempts of an EXCHANGE, each with what its own poll answered. -/
def exchangeCalls (s : State) (req : Bytes) (m n : Nat) : List TransportCall :=
  (List.range n).flatMap fun k => attemptCalls req m (polledIn s k)

/-- An `EnergyFromReset` holds what six register replies (frame, response command, payload) say, under the labels in the
order of the reads (R276, R277, R281). -/
def holdsReadings (e : EnergyFromReset) (replies : List (Bytes × Byte × Bytes)) : Prop :=
  e.active.map Prod.fst = [.sum, .t1, .t2, .t3, .t4, .loss] ∧
  e.active.map (fun x => (.ok x.2 : Except Reason Nat)) = replies.map (fun x => decodeEnergy x.2.1 (x.2.2.take 4)) ∧
  e.reactive.map Prod.fst = [.sum, .t1, .t2, .t3, .t4, .loss] ∧
  e.reactive.map (fun x => (.ok x.2 : Except Reason Nat)) =
    replies.map (fun x => decodeEnergy x.2.1 ((x.2.2.drop 8).take 4)) ∧
  e.raw = [TariffLabel.sum, .t1, .t2, .t3, .t4, .loss].zip (replies.map fun x => x.2.2)

/-- The operations of the host profile that have a row of the table. -/
def isHostOperation (i : Instr) : Bool := (requestShape i).isSome

/-- The block's own operations with an assigned op code (R111). -/
def isBlockOperation (i : Instr) : Bool :=
  match i with
  | .configure _ _ _ _ _ | .checksum _ | .build _ _ _ | .parse _ _ | .exchange _ _ _ | .close => true
  | .reservedOp _ | .testLink | .openSession _ _ | .readEnergy _ _ | .readInfo | .readRatios | .readVersion
  | .readNetaddr | .unlockArchive => false

/-- The parameter MINLEN_* of a host operation's request (R261); 0 for the block's own operations, which have none. -/
def minLenOf (i : Instr) (ms : MinLens) : Nat :=
  match i with
  | .testLink => ms.test
  | .openSession _ _ => ms.openSession
  | .readEnergy _ _ => ms.energy
  | .readInfo => ms.info
  | .readRatios => ms.ratios
  | .readVersion => ms.version
  | .readNetaddr => ms.netaddr
  | .unlockArchive => ms.unlock
  | .configure _ _ _ _ _ | .checksum _ | .build _ _ _ | .parse _ _ | .exchange _ _ _ | .close | .reservedOp _ => 0

/-- Frames, each sent a number of times in a row: what a sequence of exchanges puts on the transmit stream. -/
def sentFrames (counts : List Nat) (frames : List Bytes) : Bytes :=
  (List.zipWith (fun n f => (List.replicate n f).flatten) counts frames).flatten

/-- The request frames of PREPARE_ENERGY to device `a` (R275). -/
def prepareFrames (a : Byte) : List Bytes := [frame a 0x01 [1, 1, 1, 1, 1, 1, 1], frame a 0x08 [0x12]]

/-- The request frames of the six register reads of a group (R277). -/
def groupFrames (a group : Byte) : List Bytes := [0, 1, 2, 3, 4, 5].map fun i => frame a 0x05 [group, i]

/-- The request frames of READ_PASSPORT (R268). -/
def passportFrames (a : Byte) : List Bytes :=
  [frame a 0x00 [], frame a 0x01 [2, 2, 2, 2, 2, 2, 2], frame a 0x08 [0x05], frame a 0x08 [0x00], frame a 0x08 [0x03],
   frame a 0x08 [0x02]]

/-! ### Sequences as lists of exchanges -/

/-- The host's check of a response payload (R264, R276). -/
inductive PayloadCheck where
  | anything
  | notEmpty
  | atLeastTwelve
deriving DecidableEq, Repr

/-- Does a payload fail the check? Then the host stops with SHORT_PAYLOAD. -/
def PayloadCheck.failsOn (c : PayloadCheck) (p : Bytes) : Bool :=
  match c with
  | .anything => false
  | .notEmpty => p.isEmpty
  | .atLeastTwelve => decide (p.length < 12)

/-- One exchange of a host operation: the operands of EXCHANGE, and the check of its response. -/
structure HostExchange where
  command : Int
  data : List Int
  minlen : Nat
  check : PayloadCheck
deriving DecidableEq, Repr

/-- The exchanges of PREPARE_ENERGY (R275). -/
def prepareExchanges (ms : MinLens) : List HostExchange :=
  [⟨0x01, [1, 1, 1, 1, 1, 1, 1], ms.openSession, .anything⟩, ⟨0x08, [0x12], ms.unlock, .anything⟩]

/-- The exchanges of the six register reads of a group (R276, R277). -/
def groupExchanges (ms : MinLens) (group : Int) : List HostExchange :=
  [0, 1, 2, 3, 4, 5].map fun i => ⟨0x05, [group, i], ms.energy, .atLeastTwelve⟩

/-- The exchanges a sequence makes when all succeed (R268, R275, R277 to R279), for a month in range. -/
def exchangesOf (q : Sequence) (ms : MinLens) : List HostExchange :=
  match q with
  | .readPassport =>
    [⟨0x00, [], ms.test, .anything⟩, ⟨0x01, [2, 2, 2, 2, 2, 2, 2], ms.openSession, .anything⟩,
     ⟨0x08, [0x05], ms.netaddr, .notEmpty⟩, ⟨0x08, [0x00], ms.info, .anything⟩, ⟨0x08, [0x03], ms.version, .anything⟩,
     ⟨0x08, [0x02], ms.ratios, .anything⟩]
  | .prepareEnergy => prepareExchanges ms
  | .readEnergyReset => prepareExchanges ms ++ groupExchanges ms 0x00
  | .readEnergyMonth m => prepareExchanges ms ++ groupExchanges ms (0x30 + m)
  | .readEnergyAll =>
    prepareExchanges ms ++
      [0x31, 0x32, 0x33, 0x34, 0x35, 0x36, 0x37, 0x38, 0x39, 0x3A, 0x3B, 0x3C].flatMap (groupExchanges ms)

/-- Exchanges one after another up to the first failure (R260): the outcome of that failure, or `none` when all succeeded,
and the state then. -/
def runExchanges (xs : List HostExchange) (s : State) : Option Out × State :=
  match xs with
  | [] => (none, s)
  | x :: rest =>
    match (exchange x.command x.data x.minlen s).out with
    | .ok (.response _ p) =>
      if x.check.failsOn p then (some (.err { reason := .shortPayload }), exchange x.command x.data x.minlen s)
      else runExchanges rest (exchange x.command x.data x.minlen s)
    | o => (some o, exchange x.command x.data x.minlen s)

/-! ### Transitions -/

/-- The values STATE may take next (R196). -/
def mayFollow (f : FsmState) : List FsmState :=
  match f with
  | .idle => [.idle]
  | .build => [.idle, .discard]
  | .discard => [.write, .idle]
  | .write => [.readHead, .idle]
  | .readHead => [.pollAvail, .idle]
  | .pollAvail => [.readTail, .checkLen, .idle]
  | .readTail => [.checkLen, .idle]
  | .checkLen => [.discard, .classify, .parse]
  | .parse => [.idle, .discard, .classify]
  | .classify => [.idle]

end Sys2Proof.Machine
end

