-- ==== Sys2Proof/Certificates/Slice0/Obligations.lean ====
section
/-!
DEFINITION. The statements for the provers, taken from the spec's numbered rules file by file. Each docstring cites the
rules it formalises; where a clause rests on a choice of the model, it names the log entry.
-/

open Sys2Proof Sys2Proof.Machine

/-! ### Requests and steps -/

/-- R110 to R112. Decoding the bytes of a well-formed HOSTOP operation gives it back, at every operand value. The byte
layout of the operands is the model's own (log 2). -/
def Obligations.TransactionDecodesItsEncoding : Prop :=
  ∀ (i : Instr) (bs : Bytes), i.wellFormed = true → encodeTransaction i = some bs → decodeTransaction bs = .ok i

/-- R100, R120. Decoding the request frame of a host operation, to whatever device, gives the operation back. That a
frame names an operation is the model's choice (log 3). -/
def Obligations.WireRequestDecodesItsFrame : Prop :=
  ∀ (a : Byte) (i : Instr) (f : Bytes), encodeWire a i = some f → decodeWire f = .ok i

/-- R100, R102, R120. A frame that decodes to an operation is that operation's request frame to the device of its first
byte: no bit of the frame is ignored. That a frame names an operation is the model's choice (log 3). -/
def Obligations.DecodedFrameIsTheRequestFrame : Prop :=
  ∀ (f : Bytes) (i : Instr), decodeWire f = .ok i → encodeWire (f.getD 0 0) i = some f

/-- R111, R120 and the frames of 95_test_vectors.md section 3: a few words, written out, and what they decode to. The
operand bytes follow log 2. -/
def Obligations.WrittenOutWordsDecode : Prop :=
  decodeTableWord 8 0x06 = some .close ∧
  decodeTableWord 8 0x07 = some (.reservedOp 0x07) ∧
  decodeTransaction [0x02, 0x02, 0x01, 0x00] = .ok (.checksum [0x01, 0x00]) ∧
  decodeTransaction [0x03, 0x02, 0x10, 0x01, 0x0A] = .ok (.build 1 8 [5]) ∧
  decodeTransaction [0x05, 0x10, 0x01, 0x0A, 0x05] = .ok (.exchange 8 [5] 5) ∧
  decodeWire [0x01, 0x00, 0x00, 0x20] = .ok .testLink ∧
  decodeWire [0x01, 0x08, 0x05, 0xE7, 0xC3] = .ok .readNetaddr ∧
  decodeWire [0x01, 0x08, 0x12, 0xA7, 0xCD] = .ok .unlockArchive ∧
  decodeWire [0x01, 0x05, 0x31, 0x00, 0x04, 0x49] = .ok (.readEnergy 0x31 0)

/-- R37, R339, R340. When no operation runs and the host's next request decodes to an operation, the step is that
operation's meaning in the state whose request list has lost its first entry; a request for a sequence runs the sequence in
that state; without a request nothing happens; and while an EXCHANGE runs a step is one of its transitions. The request
list is the model's own (logs 1, 9, 20). -/
def Obligations.StepRunsTheDecodedOperation : Prop :=
  (∀ (s : State) (r : Request) (rest : List Request) (i : Instr),
    s.fsm = .idle → s.requests = r :: rest → decode r = .ok i → step s = exec i { s with requests := rest }) ∧
  (∀ (s : State) (q : Sequence) (rest : List Request),
    s.fsm = .idle → s.requests = .sequence q :: rest → step s = .next (runSequence q { s with requests := rest })) ∧
  (∀ s : State, s.fsm = .idle → s.requests = [] → step s = .next s) ∧
  (∀ s : State, s.fsm ≠ .idle → step s = .next (fsmStep s))

/-- R10, R320, R325, R329. The machine never stops: every step answers a next state. A request that decodes to nothing has no
meaning and is refused, with no other effect; that its reason is ILLEGAL_OP is the model's choice (log 24). -/
def Obligations.EveryStepAnswersANextState : Prop :=
  (∀ s : State, ∃ t, step s = .next t) ∧
  (∀ (s : State) (r : Request) (rest : List Request) (why : DecodeError),
    s.fsm = .idle → s.requests = r :: rest → (∀ q, r ≠ .sequence q) → decode r = .error why →
    step s = .next { s with requests := rest, out := .refused .illegalOp, refusedMark := true })

/-! ### CRC unit, encoder, parser -/

/-- R140, R141. One shift, on numbers: halved, and the polynomial if the lost bit was 1; a byte is XORed in before its
eight shifts; the register starts at 0xFFFF and nothing is XORed at the end. -/
def Obligations.CrcFollowsItsAlgorithm : Prop :=
  (∀ c : Word16, (crcShift c).toNat = if c.toNat % 2 = 1 then (c.toNat / 2) ^^^ 0xA001 else c.toNat / 2) ∧
  crc16 [] = 0xFFFF ∧
  (∀ (s : Bytes) (b : Byte), crc16 (s ++ [b]) = crcShift^[8] (crc16 s ^^^ BitVec.ofNat 16 b.toNat))

/-- R144 (the spec marks it as its own inference), the residue: the CRC of a string with its own CRC, low byte first, is
0.  -/
def Obligations.CrcResidueIsZero : Prop :=
  ∀ b : Bytes, crc16 (b ++ [BitVec.ofNat 8 ((crc16 b).toNat % 256), BitVec.ofNat 8 ((crc16 b).toNat / 256)]) = 0

/-- R145 (the spec marks it as its own inference). Flipping one bit of the body of a frame changes its CRC, and PARSE
answers BAD_CRC whatever address it expects.  -/
def Obligations.SingleBitFlipIsRejected : Prop :=
  ∀ (s : State) (body : Bytes) (n j : Nat) (e : Option Int),
    s.fsm = .idle → 2 ≤ body.length → n < body.length → j < 8 →
    crc16 (body.set n (body.getD n 0 ^^^ BitVec.twoPow 8 j)) ≠ crc16 body ∧
    ∃ x, exec (.parse (body.set n (body.getD n 0 ^^^ BitVec.twoPow 8 j) ++ crcBytes (crc16 body)) e) s =
      .next { s with
        out := .err { reason := .badCrc,
                      raw := some (body.set n (body.getD n 0 ^^^ BitVec.twoPow 8 j) ++ crcBytes (crc16 body)) }
        crc := x }

/-- R46, R146. CHECKSUM of any byte string, in any LC state, answers its CRC16; OUT is written, and the CRC unit's
working register holds the result (log 11). Nothing else changes. -/
def Obligations.ChecksumAnswersTheCrc : Prop :=
  ∀ (s : State) (b : Bytes), s.fsm = .idle →
    exec (.checksum b) s = .next { s with out := .ok (.checksum (crc16 b)), crc := crc16 b }

/-- R100, R160, R162. BUILD with every operand in 0..255 answers address, command, data and the CRC of these, low byte
first; nothing but OUT and the CRC unit's working register (log 11) changes. -/
def Obligations.BuildAnswersTheFrame : Prop :=
  ∀ (s : State) (a c : Int) (d : List Int) (body : Bytes),
    s.fsm = .idle → 0 ≤ a → a ≤ 255 → 0 ≤ c → c ≤ 255 → (∀ e ∈ d, 0 ≤ e ∧ e ≤ 255) →
    body = BitVec.ofInt 8 a :: BitVec.ofInt 8 c :: d.map (BitVec.ofInt 8) →
    exec (.build a c d) s = .next { s with
      out := .ok (.frame (body ++
        [BitVec.ofNat 8 ((crc16 body).toNat % 256), BitVec.ofNat 8 ((crc16 body).toNat / 256)]))
      crc := crc16 body }

/-- R161. BUILD's range checks, in this order: address, command, data. -/
def Obligations.BuildChecksItsRangesInOrder : Prop :=
  (∀ (s : State) (a c : Int) (d : List Int), s.fsm = .idle → ¬(0 ≤ a ∧ a ≤ 255) →
    exec (.build a c d) s = .next { s with out := .err { reason := .addrRange } }) ∧
  (∀ (s : State) (a c : Int) (d : List Int), s.fsm = .idle → (0 ≤ a ∧ a ≤ 255) → ¬(0 ≤ c ∧ c ≤ 255) →
    exec (.build a c d) s = .next { s with out := .err { reason := .cmdRange } }) ∧
  (∀ (s : State) (a c : Int) (d : List Int), s.fsm = .idle → (0 ≤ a ∧ a ≤ 255) → (0 ≤ c ∧ c ≤ 255) →
    (∃ e ∈ d, ¬(0 ≤ e ∧ e ≤ 255)) →
    exec (.build a c d) s = .next { s with out := .err { reason := .dataRange } })

/-- R173 (the source states it, the spec derives it), the round trip: PARSE of what BUILD answers gives the operands
back, with the address expected or with none.  -/
def Obligations.ParseInvertsBuild : Prop :=
  ∀ (s : State) (a c : Byte) (d : Bytes) (e : Option Int), s.fsm = .idle → (e = none ∨ e = some (a.toNat : Int)) →
    ∃ (f : Bytes) (x y : Word16),
      exec (.build (a.toNat : Int) (c.toNat : Int) (d.map fun b => (b.toNat : Int))) s =
        .next { s with out := .ok (.frame f), crc := x } ∧
      exec (.parse f e) s = .next { s with out := .ok (.parsed a c d), crc := y }

/-- R170 to R172. PARSE of any byte string: the three checks in their order, each with its reason and the string parsed
in the error record; a string that passes is split with its payload unchanged. What CRC, the CRC unit's working register
(R46), holds afterwards is the model's choice (log 11). -/
def Obligations.ParseMakesItsThreeChecks : Prop :=
  ∀ (s : State) (f : Bytes) (e : Option Int), s.fsm = .idle →
    (f.length < 4 → exec (.parse f e) s = .next { s with out := .err { reason := .shortFrame, raw := some f } }) ∧
    (4 ≤ f.length →
      (f.getD (f.length - 2) 0).toNat + 256 * (f.getD (f.length - 1) 0).toNat ≠ (crc16 (f.take (f.length - 2))).toNat →
      exec (.parse f e) s = .next { s with
        out := .err { reason := .badCrc, raw := some f }, crc := crc16 (f.take (f.length - 2)) }) ∧
    (4 ≤ f.length →
      (f.getD (f.length - 2) 0).toNat + 256 * (f.getD (f.length - 1) 0).toNat = (crc16 (f.take (f.length - 2))).toNat →
      (∃ z, e = some z ∧ z ≠ ((f.getD 0 0).toNat : Int)) →
      exec (.parse f e) s = .next { s with
        out := .err { reason := .addrMismatch, raw := some f }, crc := crc16 (f.take (f.length - 2)) }) ∧
    (4 ≤ f.length →
      (f.getD (f.length - 2) 0).toNat + 256 * (f.getD (f.length - 1) 0).toNat = (crc16 (f.take (f.length - 2))).toNat →
      (e = none ∨ e = some ((f.getD 0 0).toNat : Int)) →
      exec (.parse f e) s = .next { s with
        out := .ok (.parsed (f.getD 0 0) (f.getD 1 0) ((f.drop 2).take (f.length - 4)))
        crc := crc16 (f.take (f.length - 2)) })

/-- R105 (the spec marks it as its own inference). A valid frame with bytes after it: one byte passes exactly when it is
0; two or more pass exactly when the last two are the CRC, started at 0, of the others; any number of 0 bytes passes.
The payload grows as R105 says.  -/
def Obligations.TrailingBytesAfterAFrame : Prop :=
  (∀ (a c : Byte) (d : Bytes) (b : Byte),
    parseFrame (frame a c d ++ [b]) none =
      if b = 0 then .ok (a, c, d ++ [lowByte (crc16 (a :: c :: d))]) else .error .badCrc) ∧
  (∀ (a c : Byte) (d extra : Bytes) (lo hi : Byte),
    parseFrame (frame a c d ++ (extra ++ [lo, hi])) none =
      if [lo, hi] = crcBytes (crcFrom 0 extra) then .ok (a, c, d ++ crcBytes (crc16 (a :: c :: d)) ++ extra)
      else .error .badCrc) ∧
  (∀ (a c : Byte) (d : Bytes) (n : Nat),
    ∃ more, parseFrame (frame a c d ++ List.replicate n 0) none = .ok (a, c, d ++ more))

/-- R146, R160, R170. CHECKSUM, BUILD and PARSE have no effect but OUT and the CRC unit's working register (log 11);
while an EXCHANGE runs they are refused, which may set REFUSED_MARK. -/
def Obligations.PureOperationsLeaveTheRest : Prop :=
  ∀ (s t : State) (i : Instr),
    ((∃ b, i = .checksum b) ∨ (∃ a c d, i = .build a c d) ∨ (∃ f e, i = .parse f e)) → exec i s = .next t →
    t = { s with out := t.out, crc := t.crc, refusedMark := t.refusedMark } ∧
    (s.fsm = .idle → t.refusedMark = s.refusedMark)

/-! ### Configuration and lifecycle -/

/-- R50, R360. The values the spec gives for power-up: LC, STATE, REFUSED_MARK. PENDING is empty as in the start state of
95_test_vectors.md section 8; that nothing is on the transmit stream is the model's choice (log 4). -/
def Obligations.ResetIsPowerUp : Prop :=
  State.reset.lc = .unconfigured ∧ State.reset.fsm = .idle ∧ State.reset.refusedMark = false ∧
  State.reset.pending = [] ∧ State.reset.tx = []

/-- R124, R125, R321. The kinds and reasons of outcomes with their codes, the reasons of refusals with theirs, and the
kinds that are transport errors. The numbers are the spec's decision D6. -/
def Obligations.OutcomesHaveTheirCodes : Prop :=
  [Kind.ok, .invalidArgument, .protocolError, .noResponse, .transportError].map Kind.code = [0, 1, 2, 3, 4] ∧
  [Reason.addrRange, .cmdRange, .dataRange, .addrText, .retriesRange, .timeoutRange, .badKind, .passwordLen,
    .monthRange].map (fun r => (r.kind, r.code)) = (List.range 9).map (fun n => (.invalidArgument, n + 1)) ∧
  [Reason.shortFrame, .badCrc, .addrMismatch, .shortPayload, .badBlockLen].map (fun r => (r.kind, r.code)) =
    (List.range 5).map (fun n => (.protocolError, n + 1)) ∧
  (Reason.silent.kind, Reason.silent.code) = (.noResponse, 1) ∧
  [Reason.ioDiscard, .ioWrite, .ioRead, .ioAvail, .finalParse, .retainedParse, .fallback, .ioOpen].map
    (fun r => (r.kind, r.code)) = (List.range 8).map (fun n => (.transportError, n + 1)) ∧
  [RefusalReason.illegalOp, .notOpen, .alreadyConfigured, .busy].map RefusalReason.code = [1, 2, 3, 4] ∧
  (∀ k : Kind, k.isTransportError = true ↔ k = .noResponse ∨ k = .transportError) ∧
  (∀ v, (Out.ok v).kind? = some .ok) ∧ (∀ info, (Out.err info).kind? = some info.reason.kind) ∧
  (∀ r, (Out.refused r).kind? = none)

/-- R241. The address operand: an integer in range, or a decimal numeral in ASCII digits with a value in range; anything
else is ADDR_RANGE or ADDR_TEXT. An integer is a number with denominator 1, and text is its bytes (log 14). -/
def Obligations.AddressOperandIsDecoded : Prop :=
  (∀ z : Int, decodeAddress (.num z) =
    if 0 ≤ z ∧ z ≤ 255 then .ok (BitVec.ofInt 8 z) else .error .addrRange) ∧
  (∀ q : Rat, q.den ≠ 1 → decodeAddress (.num q) = .error .addrText) ∧
  (∀ t : Text, t ≠ [] → (∀ b ∈ t, 0x30 ≤ b.toNat ∧ b.toNat ≤ 0x39) →
    decodeAddress (.text t) =
      if Nat.ofDigits 10 (t.reverse.map fun b => b.toNat - 0x30) ≤ 255
      then .ok (BitVec.ofNat 8 (Nat.ofDigits 10 (t.reverse.map fun b => b.toNat - 0x30)))
      else .error .addrRange) ∧
  (∀ t : Text, (t = [] ∨ ∃ b ∈ t, ¬(0x30 ≤ b.toNat ∧ b.toNat ≤ 0x39)) → decodeAddress (.text t) = .error .addrText) ∧
  decodeAddress .other = .error .addrText

/-- R240, R242 to R244. CONFIGURE with operands in their domains and whatever parameters opens the transport with kind and
parameters. When the open succeeds, the configuration registers hold the operands, LC is OPEN and OUT is OK(unit); when it
fails, OUT is IO_OPEN, LC stays UNCONFIGURED and no configuration register is written. Nothing else changes. The answers and
calls are held as logs 5 and 23 say, the operand types are log 14's, a kind given by its name is log 27's. -/
def Obligations.ConfigureOpensTheTransport : Prop :=
  ∀ (s : State) (karg : KindArg) (k : TransportKind) (address : HostValue) (a : Byte) (timeout : Rat) (n : Nat)
    (p : OpenParams),
    s.fsm = .idle → s.lc = .unconfigured →
    (((karg = .serial ∨ karg = .named kindSerialText) ∧ k = .serial) ∨
      ((karg = .tcp ∨ karg = .named kindTcpText) ∧ k = .tcp)) →
    decodeAddress address = .ok a → 0 ≤ timeout →
    (s.nextDraw.fails = false →
      exec (.configure karg address timeout (.num n) p) s = .next { s with
        lc := .opened, addr := a, retries := n, timeout := timeout, kind := k, params := p, out := .ok .unit
        calls := s.calls ++ [.connect k p], pending := s.pending ++ s.nextDraw.arrivals, inputs := s.inputs.tail
        drawCount := if s.inputs = [] then s.drawCount + 1 else s.drawCount }) ∧
    (s.nextDraw.fails = true →
      exec (.configure karg address timeout (.num n) p) s = .next { s with
        out := .err { reason := .ioOpen }
        calls := s.calls ++ [.connect k p], pending := s.pending ++ s.nextDraw.arrivals, inputs := s.inputs.tail
        drawCount := if s.inputs = [] then s.drawCount + 1 else s.drawCount })

/-- R240 to R242, R325, R327. CONFIGURE's checks in their order: the lifecycle (a refusal), address, kind, retries, timeout.
A refusal writes OUT and REFUSED_MARK, a failed check OUT, and nothing else: no open, and LC stays as it was. What counts as
an integer is the model's choice (log 14), and so is a kind given by its name (log 27). -/
def Obligations.ConfigureChecksItsOperandsInOrder : Prop :=
  ∀ (s : State) (karg : KindArg) (address retries : HostValue) (timeout : Rat) (p : OpenParams),
    s.fsm = .idle →
    (s.lc ≠ .unconfigured → exec (.configure karg address timeout retries p) s =
      .next { s with out := .refused .alreadyConfigured, refusedMark := true }) ∧
    (∀ r, s.lc = .unconfigured → decodeAddress address = .error r →
      exec (.configure karg address timeout retries p) s = .next { s with out := .err { reason := r } }) ∧
    (∀ a name, s.lc = .unconfigured → decodeAddress address = .ok a → karg = .named name →
      name ≠ kindSerialText → name ≠ kindTcpText →
      exec (.configure karg address timeout retries p) s = .next { s with out := .err { reason := .badKind } }) ∧
    (∀ a k, s.lc = .unconfigured → decodeAddress address = .ok a → decodeKind karg = .ok k →
      (∀ n : Nat, retries ≠ .num n) →
      exec (.configure karg address timeout retries p) s = .next { s with out := .err { reason := .retriesRange } }) ∧
    (∀ a k (n : Nat), s.lc = .unconfigured → decodeAddress address = .ok a → decodeKind karg = .ok k →
      retries = .num n → timeout < 0 →
      exec (.configure karg address timeout retries p) s = .next { s with out := .err { reason := .timeoutRange } })

/-- R250, R252, R253. CLOSE with LC = OPEN releases the transport once and makes LC CLOSED; in every other LC state it
answers OK(unit) and has no effect. That the close completes is the spec's decision D24 (log 19). -/
def Obligations.CloseReleasesOnce : Prop :=
  (∀ s : State, s.fsm = .idle → s.lc = .opened →
    exec .close s = .next { s with lc := .closed, calls := s.calls ++ [.release], out := .ok .unit }) ∧
  (∀ s : State, s.fsm = .idle → s.lc ≠ .opened → exec .close s = .next { s with out := .ok .unit })

/-- R191. EXCHANGE with LC not OPEN is refused with NOT_OPEN: no register but OUT and REFUSED_MARK changes, and no
transport call is made. -/
def Obligations.ExchangeNeedsAnOpenTransport : Prop :=
  ∀ (s : State) (c : Int) (d : List Int) (m : Nat), s.fsm = .idle → s.lc ≠ .opened →
    exec (.exchange c d m) s = .next { s with out := .refused .notOpen, refusedMark := true }

/-- R326. A request presented while STATE is not IDLE is refused with BUSY, whichever of the block's operations it is. A host
operation with a row in the table presents its EXCHANGE, which is refused so, and ends with that refusal (R260); its result
is held as log 20 says. (A password that is not six long presents no EXCHANGE.) -/
def Obligations.RunningExchangeRefusesRequests : Prop :=
  (∀ (s : State) (i : Instr), isBlockOperation i = true → s.fsm ≠ .idle →
    exec i s = .next { s with out := .refused .busy, refusedMark := true }) ∧
  (∀ (s : State) (i : Instr), isHostOperation i = true → (∀ lvl pw, i = .openSession lvl pw → pw.length = 6) →
    s.fsm ≠ .idle →
    exec i s = .next { s with
      out := .refused .busy, refusedMark := true, hostOut := .stopped (.refused .busy) })

/-- R113. Exactly the codes 0x00 and 0x07 to 0xFF decode as unassigned, whatever bytes come with them; a request with one of
them is refused with ILLEGAL_OP, whatever runs, and has no other effect. That bytes after the code are ignored is the
model's choice (log 25). -/
def Obligations.UnassignedCodeIsRefused : Prop :=
  (∀ (code : Byte) (rest : Bytes), (code.toNat = 0 ∨ 7 ≤ code.toNat) →
    decodeTransaction (code :: rest) = .ok (.reservedOp code)) ∧
  (∀ (code c : Byte) (rest : Bytes), decodeTransaction (code :: rest) = .ok (.reservedOp c) →
    c = code ∧ (code.toNat = 0 ∨ 7 ≤ code.toNat)) ∧
  (∀ (s : State) (code : Byte),
    exec (.reservedOp code) s = .next { s with out := .refused .illegalOp, refusedMark := true })

/-! ### The exchange controller -/

/-- R196. STATE moves only as the table of transitions says. The states are the spec's decision D29. -/
def Obligations.StateMovesByTheTable : Prop := ∀ s : State, (fsmStep s).fsm ∈ mayFollow s.fsm

/-- R72 to R77, R196, R199. What the primitives of a running EXCHANGE do when they do not fail, as the whole next state: no
other register changes. The discard empties PENDING. The write appends REQ to the transmit stream and clears RX. The head
read puts a front part of PENDING, no longer than MINLEN, into RX. The poll leaves PENDING's bytes and RX; above 0 the count
is kept and the tail read follows, at 0 the receive phase ends. The tail read appends a front part of PENDING, no longer
than the count, to RX and ends the receive phase. The end of the receive phase is LASTRAW <- RX, ATT <- ATT + 1 and
CHECK_LEN. When bytes arrive and how many a read draws is held as log 5 says, the count as log 10, the calls as log 23. -/
def Obligations.PrimitivesMoveBytesAndRegisters : Prop :=
  ∀ s : State, s.nextDraw.fails = false →
    (s.fsm = .discard → fsmStep s = { s with
      fsm := .write, pending := [], calls := s.calls ++ [.discard]
      inputs := s.inputs.tail
      drawCount := if s.inputs = [] then s.drawCount + 1 else s.drawCount }) ∧
    (s.fsm = .write → fsmStep s = { s with
      fsm := .readHead, rx := [], tx := s.tx ++ s.req, pending := s.pending ++ s.nextDraw.arrivals
      calls := s.calls ++ [.write s.req]
      inputs := s.inputs.tail
      drawCount := if s.inputs = [] then s.drawCount + 1 else s.drawCount }) ∧
    (s.fsm = .readHead → ∃ r p : Bytes, r ++ p = s.pending ++ s.nextDraw.arrivals ∧
      r.length = min s.nextDraw.count (min s.minlen (r ++ p).length) ∧
      fsmStep s = { s with
        fsm := .pollAvail, rx := r, pending := p, calls := s.calls ++ [.read s.minlen]
        inputs := s.inputs.tail
        drawCount := if s.inputs = [] then s.drawCount + 1 else s.drawCount }) ∧
    (s.fsm = .pollAvail → 0 < s.nextDraw.count → fsmStep s = { s with
      fsm := .readTail, availN := s.nextDraw.count, pending := s.pending ++ s.nextDraw.arrivals
      calls := s.calls ++ [.avail]
      inputs := s.inputs.tail
      drawCount := if s.inputs = [] then s.drawCount + 1 else s.drawCount }) ∧
    (s.fsm = .pollAvail → s.nextDraw.count = 0 → fsmStep s = { s with
      fsm := .checkLen, availN := 0, lastRaw := s.rx, att := s.att + 1
      pending := s.pending ++ s.nextDraw.arrivals, calls := s.calls ++ [.avail]
      inputs := s.inputs.tail
      drawCount := if s.inputs = [] then s.drawCount + 1 else s.drawCount }) ∧
    (s.fsm = .readTail → ∃ r p : Bytes, r ++ p = s.pending ++ s.nextDraw.arrivals ∧
      r.length = min s.nextDraw.count (min s.availN (r ++ p).length) ∧
      fsmStep s = { s with
        fsm := .checkLen, rx := s.rx ++ r, lastRaw := s.rx ++ r, att := s.att + 1, pending := p
        calls := s.calls ++ [.read s.availN]
        inputs := s.inputs.tail
        drawCount := if s.inputs = [] then s.drawCount + 1 else s.drawCount })

/-- R203. An I/O error ends EXCHANGE at the primitive that failed, with its reason, the attempt in progress and the bytes
of that attempt so far; no register but OUT and STATE changes. That no byte is written or read is the model's choice
(log 6), and so are the answers and the record of calls (logs 5, 23). -/
def Obligations.IoErrorEndsTheExchange : Prop :=
  ∀ (s : State) (reason : Reason) (raw : Bytes) (call : TransportCall), s.nextDraw.fails = true →
    ((s.fsm = .discard ∧ reason = .ioDiscard ∧ raw = [] ∧ call = .discard) ∨
     (s.fsm = .write ∧ reason = .ioWrite ∧ raw = [] ∧ call = .write s.req) ∨
     (s.fsm = .readHead ∧ reason = .ioRead ∧ raw = [] ∧ call = .read s.minlen) ∨
     (s.fsm = .pollAvail ∧ reason = .ioAvail ∧ raw = s.rx ∧ call = .avail) ∨
     (s.fsm = .readTail ∧ reason = .ioRead ∧ raw = s.rx ∧ call = .read s.availN)) →
    fsmStep s = { s with
      fsm := .idle
      out := .err { reason := reason, address := some s.addr, command := some s.cmd, attempts := some (s.att + 1),
                    raw := some raw }
      calls := s.calls ++ [call], pending := s.pending ++ s.nextDraw.arrivals, inputs := s.inputs.tail
      drawCount := if s.inputs = [] then s.drawCount + 1 else s.drawCount }

/-- R200. CHECK_LEN: fewer than four bytes clear LASTPE and keep LASTERR, and the next attempt starts while attempts
remain; four or more clear ALLSHORT and are parsed. -/
def Obligations.ShortAttemptIsRetried : Prop :=
  (∀ s : State, s.fsm = .checkLen → s.rx.length < 4 → s.att < s.retries + 1 →
    fsmStep s = { s with lastPe := false, fsm := .discard }) ∧
  (∀ s : State, s.fsm = .checkLen → s.rx.length < 4 → s.att = s.retries + 1 →
    fsmStep s = { s with lastPe := false, fsm := .classify }) ∧
  (∀ s : State, s.fsm = .checkLen → 4 ≤ s.rx.length → fsmStep s = { s with allShort := false, fsm := .parse })

/-- R201, R202. PARSE of at least four received bytes: a good frame from ADDR ends EXCHANGE with the response command, which
is byte 1, and the payload, which is what stands between it and the last two bytes; a failure, which is BAD_CRC or
ADDR_MISMATCH (R174, the spec's own inference), is retained, and the next attempt starts while attempts remain. The CRC
unit's working register may change. -/
def Obligations.ParseEndsOrRetries : Prop :=
  ∀ s : State, s.fsm = .parse → 4 ≤ s.rx.length →
    (∀ a rc p, parseFrame s.rx (some (s.addr.toNat : Int)) = .ok (a, rc, p) →
      rc = s.rx.getD 1 0 ∧ p = (s.rx.take (s.rx.length - 2)).drop 2 ∧
      ∃ x, fsmStep s = { s with fsm := .idle, out := .ok (.response rc p), crc := x }) ∧
    (∀ r, parseFrame s.rx (some (s.addr.toNat : Int)) = .error r →
      (r = .badCrc ∨ r = .addrMismatch) ∧
      (s.att < s.retries + 1 →
        ∃ x, fsmStep s = { s with lastErr := some r, lastPe := true, crc := x, fsm := .discard }) ∧
      (s.att = s.retries + 1 →
        ∃ x, fsmStep s = { s with lastErr := some r, lastPe := true, crc := x, fsm := .classify }))

/-- R205 to R208. CLASSIFY: NO_RESPONSE when every attempt was short, else FINAL_PARSE when the last one failed to parse,
else RETAINED_PARSE when an earlier one did. -/
def Obligations.ClassificationFollowsItsOrder : Prop :=
  (∀ s : State, s.fsm = .classify → s.allShort = true →
    fsmStep s = { s with
      fsm := .idle
      out := .err { reason := .silent, address := some s.addr, command := some s.cmd, attempts := some s.att } }) ∧
  (∀ s : State, s.fsm = .classify → s.allShort = false → s.lastPe = true →
    fsmStep s = { s with
      fsm := .idle
      out := .err { reason := .finalParse, address := some s.addr, command := some s.cmd, attempts := some s.att,
                    raw := some s.lastRaw, cause := s.lastErr } }) ∧
  (∀ s : State, s.fsm = .classify → s.allShort = false → s.lastPe = false → s.lastErr ≠ none →
    fsmStep s = { s with
      fsm := .idle
      out := .err { reason := .retainedParse, address := some s.addr, command := some s.cmd, attempts := some s.att,
                    raw := some s.lastRaw, cause := s.lastErr } })

/-- R192, R330. A command or data element outside 0..255 ends EXCHANGE with INVALID_ARGUMENT before any transport call.
The operands were latched; an 8-bit latch of an integer that does not fit holds a free value (log 8), and the operands
stand on the host interface (log 10). -/
def Obligations.ExchangeChecksItsOperandsFirst : Prop :=
  ∀ (s : State) (c : Int) (d : List Int) (m : Nat), s.fsm = .idle → s.lc = .opened →
    (¬(0 ≤ c ∧ c ≤ 255) →
      exec (.exchange c d m) s = .next { s with
        out := .err { reason := .cmdRange }
        cmd := latchByte c, data := d.map latchByte, minlen := m, opCmd := c, opData := d }) ∧
    ((0 ≤ c ∧ c ≤ 255) → (∃ e ∈ d, ¬(0 ≤ e ∧ e ≤ 255)) →
      exec (.exchange c d m) s = .next { s with
        out := .err { reason := .dataRange }
        cmd := latchByte c, data := d.map latchByte, minlen := m, opCmd := c, opData := d })

/-- R190, R193 to R202, R210, R213, R215. An EXCHANGE that gets a good frame from ADDR in one of its RETRIES + 1 attempts, and
in none before, ends with that frame's command and payload after that attempt. Each attempt made its calls: one discard, one
write of the request frame, the head read, the poll, and the tail read exactly when the poll answered more than 0. LASTERR
and LASTPE are what the attempts before left. The form of the answers and the record of calls are the model's choice (logs
5, 23). -/
def Obligations.ExchangeAnswersAGoodReply : Prop :=
  ∀ (s : State) (c : Int) (d : List Int) (m : Nat) (before : List Attempt) (good : Attempt) (rest : List Draw)
    (a rc : Byte) (pl : Bytes),
    s.fsm = .idle → s.lc = .opened → 0 ≤ c → c ≤ 255 → (∀ e ∈ d, 0 ≤ e ∧ e ≤ 255) →
    before.length ≤ s.retries → attempted s (before ++ [good]) rest →
    (∀ x ∈ before, attemptError s.addr (x.delivers m) ≠ none) →
    parseFrame (good.delivers m) (some (s.addr.toNat : Int)) = .ok (a, rc, pl) →
    ∃ u, exec (.exchange c d m) s = .next u ∧ u.out = .ok (.response rc pl) ∧ u.fsm = .idle ∧
      u.att = before.length + 1 ∧
      u.cmd = BitVec.ofInt 8 c ∧ u.data = d.map (BitVec.ofInt 8) ∧ u.minlen = m ∧
      u.req = frame s.addr (BitVec.ofInt 8 c) (d.map (BitVec.ofInt 8)) ∧
      u.tx = s.tx ++ (List.replicate (before.length + 1) u.req).flatten ∧
      u.rx = good.delivers m ∧ u.lastRaw = u.rx ∧ u.allShort = false ∧
      u.lastErr = retainedFailure s.addr (before.map fun x => x.delivers m) ∧
      u.lastPe = lastFailedToParse s.addr (before.map fun x => x.delivers m) ∧
      u.calls = s.calls ++ (before ++ [good]).flatMap (fun x => attemptCalls u.req m x.poll.count) ∧ u.inputs = rest

/-- R194, R206, R217. An EXCHANGE each of whose RETRIES + 1 attempts receives fewer than four bytes, in the head read, in the
tail read or in both, fails with NO_RESPONSE, the request written in each. The form of the answers is the model's choice
(log 5). -/
def Obligations.SilentTransportGivesNoResponse : Prop :=
  ∀ (s : State) (c : Int) (d : List Int) (m : Nat) (before : List Attempt) (last : Attempt) (rest : List Draw),
    s.fsm = .idle → s.lc = .opened → 0 ≤ c → c ≤ 255 → (∀ e ∈ d, 0 ≤ e ∧ e ≤ 255) →
    before.length = s.retries → attempted s (before ++ [last]) rest →
    (∀ x ∈ before ++ [last], (x.delivers m).length < 4) →
    ∃ u, exec (.exchange c d m) s = .next u ∧
      u.out = .err { reason := .silent, address := some s.addr, command := some (BitVec.ofInt 8 c),
                     attempts := some (s.retries + 1) } ∧
      u.att = s.retries + 1 ∧ u.fsm = .idle ∧ u.lastErr = none ∧ u.lastPe = false ∧ u.allShort = true ∧
      u.lastRaw = last.delivers m ∧ u.inputs = rest ∧
      u.tx = s.tx ++ (List.replicate (s.retries + 1)
        (frame s.addr (BitVec.ofInt 8 c) (d.map (BitVec.ofInt 8)))).flatten

/-- R194, R207, R217. An EXCHANGE none of whose RETRIES + 1 attempts succeeds, and whose last one receives at least four bytes
that fail to parse, fails with TRANSPORT_ERROR, reason FINAL_PARSE: the record holds the last attempt's bytes and its parse
failure. The form of the answers is the model's choice (log 5). -/
def Obligations.CorruptedRepliesGiveFinalParse : Prop :=
  ∀ (s : State) (c : Int) (d : List Int) (m : Nat) (before : List Attempt) (last : Attempt) (r : ParseReason)
    (rest : List Draw),
    s.fsm = .idle → s.lc = .opened → 0 ≤ c → c ≤ 255 → (∀ e ∈ d, 0 ≤ e ∧ e ≤ 255) →
    before.length = s.retries → attempted s (before ++ [last]) rest →
    (∀ x ∈ before, attemptError s.addr (x.delivers m) ≠ none) →
    4 ≤ (last.delivers m).length → parseFrame (last.delivers m) (some (s.addr.toNat : Int)) = .error r →
    ∃ u, exec (.exchange c d m) s = .next u ∧
      u.out = .err { reason := .finalParse, address := some s.addr, command := some (BitVec.ofInt 8 c),
                     attempts := some (s.retries + 1), raw := some (last.delivers m), cause := some r } ∧
      u.att = s.retries + 1 ∧ u.fsm = .idle ∧ u.lastErr = some r ∧ u.lastPe = true ∧ u.allShort = false ∧
      u.lastRaw = last.delivers m ∧ u.inputs = rest ∧
      u.tx = s.tx ++ (List.replicate (s.retries + 1)
        (frame s.addr (BitVec.ofInt 8 c) (d.map (BitVec.ofInt 8)))).flatten

/-- R194, R208 (the spec's decision D22). An EXCHANGE none of whose RETRIES + 1 attempts succeeds, whose last one receives
fewer than four bytes and of whose earlier ones some received four or more, fails with TRANSPORT_ERROR, reason
RETAINED_PARSE: the record holds the last attempt's bytes and the last parse failure of the earlier ones. The form of the
answers is the model's choice (log 5). -/
def Obligations.EarlierParseFailureIsRetained : Prop :=
  ∀ (s : State) (c : Int) (d : List Int) (m : Nat) (before : List Attempt) (last : Attempt) (r : ParseReason)
    (rest : List Draw),
    s.fsm = .idle → s.lc = .opened → 0 ≤ c → c ≤ 255 → (∀ e ∈ d, 0 ≤ e ∧ e ≤ 255) →
    before.length = s.retries → attempted s (before ++ [last]) rest →
    (∀ x ∈ before, attemptError s.addr (x.delivers m) ≠ none) → (last.delivers m).length < 4 →
    retainedFailure s.addr (before.map fun x => x.delivers m) = some r →
    ∃ u, exec (.exchange c d m) s = .next u ∧
      u.out = .err { reason := .retainedParse, address := some s.addr, command := some (BitVec.ofInt 8 c),
                     attempts := some (s.retries + 1), raw := some (last.delivers m), cause := some r } ∧
      u.att = s.retries + 1 ∧ u.fsm = .idle ∧ u.lastErr = some r ∧ u.lastPe = false ∧ u.allShort = false ∧
      u.lastRaw = last.delivers m ∧ u.inputs = rest ∧
      u.tx = s.tx ++ (List.replicate (s.retries + 1)
        (frame s.addr (BitVec.ofInt 8 c) (d.map (BitVec.ofInt 8)))).flatten

/-- R37, R212. Every EXCHANGE ends, whatever the environment answers: STATE is IDLE again, after at most 5 * (RETRIES + 1)
primitives in all. That every primitive returns is the spec's decision D28 (log 16). -/
def Obligations.EveryExchangeEnds : Prop :=
  ∀ (s : State) (c : Int) (d : List Int) (m : Nat), s.fsm = .idle →
    ∃ u, exec (.exchange c d m) s = .next u ∧ u.fsm = .idle ∧
      u.calls.length ≤ s.calls.length + 5 * (s.retries + 1)

/-- R209, R214. With an open transport EXCHANGE ends in one of the outcomes of R214: never in FALLBACK, never in
PROTOCOL_ERROR, never in a refusal. R209 is the spec's own inference. -/
def Obligations.ExchangeOutcomesAreTheListed : Prop :=
  ∀ (s : State) (c : Int) (d : List Int) (m : Nat), s.fsm = .idle → s.lc = .opened →
    ∃ u, exec (.exchange c d m) s = .next u ∧ exchangeOutcome u.out = true ∧ u.refusedMark = s.refusedMark

/-- R195 (the spec marks it as its own inference). ATT when EXCHANGE has ended: 1 to RETRIES + 1 after a success,
RETRIES + 1 after the three failures of the classification, at most RETRIES after an I/O error.  -/
def Obligations.AttemptCountIsBounded : Prop :=
  ∀ (s : State) (c : Int) (d : List Int) (m : Nat), s.fsm = .idle → s.lc = .opened →
    ∃ u, exec (.exchange c d m) s = .next u ∧
      (∀ rc p, u.out = .ok (.response rc p) → 1 ≤ u.att ∧ u.att ≤ s.retries + 1) ∧
      (∀ info, u.out = .err info →
        (info.reason = .silent ∨ info.reason = .finalParse ∨ info.reason = .retainedParse) → u.att = s.retries + 1) ∧
      (ioOutcome u.out = true → u.att ≤ s.retries)

/-- R194, R195, R203, R213, R215. The transport activity of an EXCHANGE: ATT finished attempts, each with its calls in their
order and the tail read exactly when the environment's answer to its own poll was above 0, and the same request frame
written in each. An EXCHANGE that an I/O error ended made a first part of the calls of one more attempt, and its frame is
written once more exactly when the write is not the call that failed and is among them (logs 6, 23). -/
def Obligations.EachAttemptMakesItsCalls : Prop :=
  ∀ (s : State) (c : Int) (d : List Int) (m : Nat),
    s.fsm = .idle → s.lc = .opened → 0 ≤ c → c ≤ 255 → (∀ e ∈ d, 0 ≤ e ∧ e ≤ 255) →
    ∃ u, exec (.exchange c d m) s = .next u ∧ u.req = frame s.addr (BitVec.ofInt 8 c) (d.map (BitVec.ofInt 8)) ∧
      (ioOutcome u.out = false →
        u.calls = s.calls ++ exchangeCalls s u.req m u.att ∧ u.tx = s.tx ++ (List.replicate u.att u.req).flatten) ∧
      (ioOutcome u.out = true → ∃ part : List TransportCall, part ≠ [] ∧
        part <+: attemptCalls u.req m (polledIn s u.att) ∧
        u.calls = s.calls ++ exchangeCalls s u.req m u.att ++ part ∧
        u.tx = s.tx ++ (List.replicate (if 2 < part.length then u.att + 1 else u.att) u.req).flatten)

/-! ### The whole machine -/

/-- R50. The invariant of the exchange controller holds at power-up. It reads registers whose values at reset are the
model's choice (log 4). -/
def Obligations.ResetMeetsTheExchangeInvariant : Prop := ExchangeInv State.reset

/-- R37, R38, R42, R45, R174, R209, R215. Every step keeps the invariant of the exchange controller. R38, R174 and R209
are inferences of the spec's own. -/
def Obligations.StepKeepsTheExchangeInvariant : Prop :=
  ∀ s t : State, ExchangeInv s → step s = .next t → ExchangeInv t

/-- R88, R244. Once LC has left UNCONFIGURED, no step changes ADDR, RETRIES, TIMEOUT, KIND or its parameters. -/
def Obligations.ConfigurationNeverChangesAgain : Prop :=
  ∀ s t : State, s.lc ≠ .unconfigured → step s = .next t →
    t.addr = s.addr ∧ t.retries = s.retries ∧ t.timeout = s.timeout ∧ t.kind = s.kind ∧ t.params = s.params

/-- R32, R48, R253, R325. LC moves from UNCONFIGURED to OPEN and from OPEN to CLOSED, and no step leaves CLOSED; no step
clears REFUSED_MARK. -/
def Obligations.LifecycleMovesForward : Prop :=
  ∀ s t : State, step s = .next t →
    (s.lc = .unconfigured → t.lc = .unconfigured ∨ t.lc = .opened) ∧
    (s.lc = .opened → t.lc = .opened ∨ t.lc = .closed) ∧
    (s.lc = .closed → t.lc = .closed) ∧
    (s.refusedMark = true → t.refusedMark = true)

/-- R71, R329. The transmit stream is append-only, and so is the record of transport calls. The record of calls is the
model's (log 23). -/
def Obligations.TransmitStreamOnlyGrows : Prop :=
  ∀ s t : State, step s = .next t → s.tx <+: t.tx ∧ s.calls <+: t.calls

/-- R37, R326. Between operations STATE is IDLE: a step that starts there ends there. That a step runs an EXCHANGE from
its latch to IDLE, and a sequence to its end, is the model's choice (logs 9, 20). -/
def Obligations.OperationsStartAndEndIdle : Prop :=
  ∀ s t : State, s.fsm = .idle → step s = .next t → t.fsm = .idle

/-! ### The host profile -/

/-- R260, R263. A host operation ends with the outcome of its EXCHANGE, unchanged, when that is no success: with the
refusal when the transport is not open, with DATA_RANGE and no transport call when an operand is no byte, and with
whatever error the EXCHANGE left in OUT. (A password that is not six long starts no EXCHANGE.) The register of results
is the model's (log 20). -/
def Obligations.HostOperationsPassFailuresOn : Prop :=
  ∀ (s : State) (i : Instr), isHostOperation i = true → (∀ lvl pw, i = .openSession lvl pw → pw.length = 6) →
    s.fsm = .idle →
    (s.lc ≠ .opened →
      exec i s = .next { s with
        out := .refused .notOpen, refusedMark := true, hostOut := .stopped (.refused .notOpen) }) ∧
    (s.lc = .opened → i.fitsFrame = false →
      ∃ u, exec i s = .next u ∧ u.out = .err { reason := .dataRange } ∧
        u.hostOut = .stopped (.err { reason := .dataRange }) ∧ u.calls = s.calls ∧ u.tx = s.tx) ∧
    (∃ u, exec i s = .next u ∧ ∀ info, u.out = .err info → u.hostOut = .stopped (.err info))

/-- R262, R263, R275. TEST_LINK, OPEN_SESSION and UNLOCK_ARCHIVE answered with a good frame succeed whatever it holds, and put
exactly their request frame on the wire; so does PREPARE_ENERGY answered with two good frames, with its two request frames.
Answers, minimum lengths and results are held as logs 5, 12 and 20 say. -/
def Obligations.ContentIgnoringOperationsSucceed : Prop :=
  (∀ (s : State) (i : Instr) (f : Bytes) (a rc : Byte) (p : Bytes),
    (i = .testLink ∨ (∃ lvl pw, i = .openSession lvl pw) ∨ i = .unlockArchive) → i.fitsFrame = true →
    s.fsm = .idle → s.lc = .opened → repliesWith s (minLenOf i s.hostMin) f →
    parseFrame f (some (s.addr.toNat : Int)) = .ok (a, rc, p) →
    ∃ u, exec i s = .next u ∧ u.hostOut = .ok .unit ∧ u.out = .ok (.response rc p) ∧
      encodeWire s.addr i = some u.req ∧ u.tx = s.tx ++ u.req) ∧
  (∀ (s : State) (x y : Attempt) (rest : List Draw) (a rc b rd : Byte) (p q : Bytes),
    s.fsm = .idle → s.lc = .opened → attempted s [x, y] rest →
    parseFrame (x.delivers s.hostMin.openSession) (some (s.addr.toNat : Int)) = .ok (a, rc, p) →
    parseFrame (y.delivers s.hostMin.unlock) (some (s.addr.toNat : Int)) = .ok (b, rd, q) →
    (runSequence .prepareEnergy s).hostOut = .ok .unit ∧ (runSequence .prepareEnergy s).out = .ok (.response rd q) ∧
    (runSequence .prepareEnergy s).tx = s.tx ++ (prepareFrames s.addr).flatten ∧
    (runSequence .prepareEnergy s).inputs = rest)

/-- R264 to R267, R270. READ_INFO, READ_VERSION, READ_RATIOS and READ_NETADDR answered with a good frame: the block as it is;
the version from three bytes, or from the response command and two bytes, or undetermined; both ratios, or neither, with the
payload; the first payload byte, or SHORT_PAYLOAD for an empty payload, which is not retried. Each puts exactly its request
frame on the wire. The form of the answers is log 5's; that the result stands beside OUT, which keeps the response, is log
20's. -/
def Obligations.ParameterReadsDecodeTheirReply : Prop :=
  ∀ (s : State) (i : Instr) (f : Bytes) (a rc : Byte) (p : Bytes),
    (i = .readInfo ∨ i = .readVersion ∨ i = .readRatios ∨ i = .readNetaddr) →
    s.fsm = .idle → s.lc = .opened → repliesWith s (minLenOf i s.hostMin) f →
    parseFrame f (some (s.addr.toNat : Int)) = .ok (a, rc, p) →
    ∃ u, exec i s = .next u ∧ u.out = .ok (.response rc p) ∧ encodeWire s.addr i = some u.req ∧ u.tx = s.tx ++ u.req ∧
      (i = .readInfo → u.hostOut = .ok (.infoBlock rc p)) ∧
      (i = .readVersion → 3 ≤ p.length → u.hostOut = .ok (.version (some ⟨p.getD 0 0, p.getD 1 0, p.getD 2 0⟩))) ∧
      (i = .readVersion → p.length = 2 → u.hostOut = .ok (.version (some ⟨rc, p.getD 0 0, p.getD 1 0⟩))) ∧
      (i = .readVersion → p.length < 2 → u.hostOut = .ok (.version none)) ∧
      (i = .readRatios → 3 ≤ p.length → u.hostOut = .ok (.ratios
        ⟨some (BitVec.ofNat 16 ((p.getD 0 0).toNat + 256 * (p.getD 1 0).toNat)), some (p.getD 2 0), p⟩)) ∧
      (i = .readRatios → p.length < 3 → u.hostOut = .ok (.ratios ⟨none, none, p⟩)) ∧
      (i = .readNetaddr → p ≠ [] → u.hostOut = .ok (.netaddr (p.getD 0 0))) ∧
      (i = .readNetaddr → p = [] → u.hostOut = .stopped (.err { reason := .shortPayload }))

/-- R276, R280. READ_ENERGY answered with a good frame of at least twelve payload bytes: active from bytes 0 to 3 and
reactive from bytes 8 to 11, by DECODE, and the whole payload; a shorter payload is SHORT_PAYLOAD and is not retried.
The form of the answers is log 5's; that the result stands beside OUT, which keeps the response, is log 20's. -/
def Obligations.ReadEnergyDecodesItsReply : Prop :=
  ∀ (s : State) (g i : Byte) (f : Bytes) (a rc : Byte) (p : Bytes),
    s.fsm = .idle → s.lc = .opened → repliesWith s s.hostMin.energy f →
    parseFrame f (some (s.addr.toNat : Int)) = .ok (a, rc, p) →
    ∃ u, exec (.readEnergy (g.toNat : Int) (i.toNat : Int)) s = .next u ∧ u.out = .ok (.response rc p) ∧
      u.tx = s.tx ++ frame s.addr 0x05 [g, i] ∧
      (12 ≤ p.length → ∃ active reactive,
        decodeEnergy rc [p.getD 0 0, p.getD 1 0, p.getD 2 0, p.getD 3 0] = .ok active ∧
        decodeEnergy rc [p.getD 8 0, p.getD 9 0, p.getD 10 0, p.getD 11 0] = .ok reactive ∧
        u.hostOut = .ok (.energy ⟨active, reactive, p⟩)) ∧
      (p.length < 12 → u.hostOut = .stopped (.err { reason := .shortPayload }))

/-- R263, R278. A password that is not six long, and a month outside 1..12, are answered by the host at once: no
EXCHANGE, nothing changes but the host's result. The order of the month check is the spec's decision D35; results are
held as log 20 says. -/
def Obligations.HostChecksComeBeforeAnyExchange : Prop :=
  (∀ (s : State) (lvl : Int) (pw : List Int), pw.length ≠ 6 →
    exec (.openSession lvl pw) s = .next { s with hostOut := .stopped (.err { reason := .passwordLen }) }) ∧
  (∀ (s : State) (m : Int) (rest : List Request), s.fsm = .idle → s.requests = .sequence (.readEnergyMonth m) :: rest →
    ¬(1 ≤ m ∧ m ≤ 12) →
    step s = .next { s with requests := rest, hostOut := .stopped (.err { reason := .monthRange }) })

/-- R6, R190, R216, R260. EXCHANGE, and a host operation, which is one EXCHANGE and its result, write the registers of the
exchange controller, the CRC unit's working register (log 11), OUT and, when refused, REFUSED_MARK, and the transport's
side; a host operation writes its result too. ADDR, RETRIES, TIMEOUT, KIND, LC, the host's requests and parameters stay. -/
def Obligations.ExchangesLeaveTheRest : Prop :=
  ∀ (s t : State) (i : Instr), ((∃ c d m, i = .exchange c d m) ∨ isHostOperation i = true) → exec i s = .next t →
    t = { s with
      fsm := t.fsm, att := t.att, cmd := t.cmd, data := t.data, minlen := t.minlen, req := t.req, rx := t.rx
      lastRaw := t.lastRaw, allShort := t.allShort, lastErr := t.lastErr, lastPe := t.lastPe, crc := t.crc, out := t.out
      refusedMark := t.refusedMark, availN := t.availN, opCmd := t.opCmd, opData := t.opData, pending := t.pending
      tx := t.tx, calls := t.calls, inputs := t.inputs, drawCount := t.drawCount, hostOut := t.hostOut } ∧
    (isHostOperation i = false → t.hostOut = s.hostOut)

/-- R280. DECODE's branches in their order, as numbers. -/
def Obligations.EnergyDecoderBranches : Prop :=
  (∀ (rc : Byte) (blk : Bytes), blk.length ≠ 4 → decodeEnergy rc blk = .error .badBlockLen) ∧
  (∀ rc b0 b1 b2 b3 : Byte, decodeEnergy rc [b0, b1, b2, b3] = .ok
    (if rc.toNat = 0 ∧ b0.toNat = 0 ∧ b1.toNat = 0 ∧ b2.toNat = 0 ∧ b3.toNat = 0 then 0
     else if rc.toNat = 0 ∧ b0.toNat = 0 ∧ b1.toNat = 0 ∧ b3.toNat ≠ 255 then 256 * b3.toNat + b2.toNat
     else 65536 * rc.toNat + 256 * b2.toNat + b1.toNat))

/-- R272, R273. The build date: the last three payload bytes are day, month and year less 2000; it is known exactly when
it is a date of the Gregorian calendar. -/
def Obligations.BuildDateIsACalendarDate : Prop :=
  (∀ p : Bytes, p.length < 3 → buildDate p = none) ∧
  (∀ (front : Bytes) (dd mm yy : Byte), buildDate (front ++ [dd, mm, yy]) =
    if 1 ≤ mm.toNat ∧ mm.toNat ≤ 12 ∧ 1 ≤ dd.toNat ∧
      dd.toNat ≤ (if mm.toNat = 2 then
          (if (2000 + yy.toNat) % 4 = 0 ∧ ((2000 + yy.toNat) % 100 ≠ 0 ∨ (2000 + yy.toNat) % 400 = 0) then 29 else 28)
        else if mm.toNat = 4 ∨ mm.toNat = 6 ∨ mm.toNat = 9 ∨ mm.toNat = 11 then 30 else 31)
    then some ⟨2000 + yy.toNat, mm.toNat, dd.toNat⟩ else none)

/-- R271. The serial number: the decimal forms of the response command and the first three payload bytes, each padded with
zeros to two digits and never cut; undetermined for a shorter payload (the spec's decision D31). -/
def Obligations.SerialNumberIsDecimalText : Prop :=
  (∀ (rc : Byte) (p : Bytes), p.length < 3 → serialText rc p = none) ∧
  (∀ (rc b0 b1 b2 : Byte) (rest : Bytes), serialText rc (b0 :: b1 :: b2 :: rest) =
    some ([rc, b0, b1, b2].flatMap fun b =>
      (List.leftpad 2 0 (Nat.digits 10 b.toNat).reverse).map fun n => BitVec.ofNat 8 (0x30 + n)))

/-- R268, R269. A READ_PASSPORT each of whose six exchanges is answered with a good frame gives the passport: serial and
date from the info response, version and ratios from theirs, the info and ratios responses kept raw, and the raw serial
and the network address as the parameter says (logs 12, 13). Answers and results are held as logs 5 and 20 say. -/
def Obligations.PassportHoldsItsDecodedFields : Prop :=
  ∀ (s : State) (fl fs fn fi fv fr : Bytes) (rl rs rn ri rv rr na : Byte) (pl ps pn pi pv pr : Bytes) (rest : List Draw),
    s.fsm = .idle → s.lc = .opened →
    s.inputs = ([fl, fs, fn, fi, fv, fr].map answersWith).flatten ++ rest →
    goodReply s s.hostMin.test fl rl pl → goodReply s s.hostMin.openSession fs rs ps →
    goodReply s s.hostMin.netaddr fn rn (na :: pn) → goodReply s s.hostMin.info fi ri pi →
    goodReply s s.hostMin.version fv rv pv → goodReply s s.hostMin.ratios fr rr pr →
    ∃ d, (runSequence .readPassport s).hostOut = .ok (.passport d) ∧
      d.serial = serialText ri pi ∧ d.date = buildDate pi ∧ d.version = versionOf rv pv ∧
      d.voltage = (ratiosOf pr).voltage ∧ d.current = (ratiosOf pr).current ∧
      (⟨.info, ri, pi⟩ : RawBlock) ∈ d.rawBlocks ∧ (⟨.ratios, rr, pr⟩ : RawBlock) ∈ d.rawBlocks ∧
      d.serialRaw = s.passportParams.serialBytes.filterMap (fun n => (ri :: pi)[n]?) ∧
      d.netaddr = (if s.passportParams.keepNetaddr = true then some na else none)

/-- R276, R277, R278, R281. A READ_ENERGY_RESET or READ_ENERGY_MONTH each of whose eight exchanges is answered with a
good frame, the six register reads with at least twelve payload bytes, gives active and reactive values and raw payloads
under the labels sum, t1, t2, t3, t4, loss, in this order. The answers, minimum lengths and results are held as logs 5, 12 and 20 say. -/
def Obligations.EnergySetHoldsItsReadings : Prop :=
  ∀ (s : State) (q : Sequence) (f1 f2 : Bytes) (r1 r2 : Byte) (p1 p2 : Bytes) (replies : List (Bytes × Byte × Bytes))
    (rest : List Draw),
    s.fsm = .idle → s.lc = .opened → (q = .readEnergyReset ∨ ∃ m : Int, 1 ≤ m ∧ m ≤ 12 ∧ q = .readEnergyMonth m) →
    replies.length = 6 → s.inputs = ((f1 :: f2 :: replies.map Prod.fst).map answersWith).flatten ++ rest →
    goodReply s s.hostMin.openSession f1 r1 p1 → goodReply s s.hostMin.unlock f2 r2 p2 →
    (∀ x ∈ replies, goodReply s s.hostMin.energy x.1 x.2.1 x.2.2 ∧ 12 ≤ x.2.2.length) →
    ∃ e, (runSequence q s).hostOut = .ok (.energySet e) ∧ holdsReadings e replies

/-- R276, R279, R281. A READ_ENERGY_ALL each of whose 74 exchanges is answered with a good frame, the register reads with at
least twelve payload bytes, gives twelve values in month order, each holding the six readings of its month. The answers,
minimum lengths and results are held as logs 5, 12 and 20 say. -/
def Obligations.EnergyYearHoldsItsReadings : Prop :=
  ∀ (s : State) (f1 f2 : Bytes) (r1 r2 : Byte) (p1 p2 : Bytes) (months : List (List (Bytes × Byte × Bytes)))
    (rest : List Draw),
    s.fsm = .idle → s.lc = .opened → months.length = 12 → (∀ g ∈ months, g.length = 6) →
    s.inputs = ((f1 :: f2 :: months.flatten.map Prod.fst).map answersWith).flatten ++ rest →
    goodReply s s.hostMin.openSession f1 r1 p1 → goodReply s s.hostMin.unlock f2 r2 p2 →
    (∀ x ∈ months.flatten, goodReply s s.hostMin.energy x.1 x.2.1 x.2.2 ∧ 12 ≤ x.2.2.length) →
    ∃ l, (runSequence .readEnergyAll s).hostOut = .ok (.energyYear l) ∧ List.Forall₂ holdsReadings l months

/-- R268, R275, R277 to R279. A sequence that succeeds sent its request frames in their order, each 1 to RETRIES + 1 times: six
for READ_PASSPORT, two for PREPARE_ENERGY, eight for READ_ENERGY_RESET and READ_ENERGY_MONTH, and for READ_ENERGY_ALL one
preparation and then twelve groups of six register reads, months and indices ascending. How a sequence runs and where its
success stands is log 20's. -/
def Obligations.SequencesSendTheirFrames : Prop :=
  ∀ (s : State) (q : Sequence) (v : HostResult) (frames : List Bytes), s.fsm = .idle → s.lc = .opened →
    ((q = .readPassport ∧ frames = passportFrames s.addr) ∨
     (q = .prepareEnergy ∧ frames = prepareFrames s.addr) ∨
     (q = .readEnergyReset ∧ frames = prepareFrames s.addr ++ groupFrames s.addr 0x00) ∨
     (∃ m : Nat, 1 ≤ m ∧ m ≤ 12 ∧ q = .readEnergyMonth m ∧
       frames = prepareFrames s.addr ++ groupFrames s.addr (BitVec.ofNat 8 (0x30 + m))) ∨
     (q = .readEnergyAll ∧ frames = prepareFrames s.addr ++
       [0x31, 0x32, 0x33, 0x34, 0x35, 0x36, 0x37, 0x38, 0x39, 0x3A, 0x3B, 0x3C].flatMap (groupFrames s.addr))) →
    (runSequence q s).hostOut = .ok v →
    ∃ counts : List Nat, counts.length = frames.length ∧ (q = .readEnergyAll → counts.length = 74) ∧
      (∀ n ∈ counts, 1 ≤ n ∧ n ≤ s.retries + 1) ∧
      (runSequence q s).tx = s.tx ++ sentFrames counts frames

/-- R260, R268, R275, R277 to R279, R331. A sequence is its exchanges in their order, up to the first that does not succeed or
whose payload fails the host's check: there it ends, with that outcome unchanged as its result and every register as that
exchange left it, so that no later frame is sent and nothing is retried. It gives a value exactly when none fails. The month
of READ_ENERGY_MONTH is in range here. How a sequence runs and where its result stands is log 20's. -/
def Obligations.SequencesStopAtTheFirstFailure : Prop :=
  ∀ (s t : State) (q : Sequence), (∀ m, q = .readEnergyMonth m → 1 ≤ m ∧ m ≤ 12) →
    (∀ o, runExchanges (exchangesOf q s.hostMin) s = (some o, t) → runSequence q s = { t with hostOut := .stopped o }) ∧
    (runExchanges (exchangesOf q s.hostMin) s = (none, t) → ∃ v, runSequence q s = { t with hostOut := .ok v })
end

