-- ==== Sys2Proof/Laws/State.lean ====
section
/-!
SUPPORT. One lemma per field per update of State, each true by definition, so that no later proof unfolds an update.
-/
namespace Sys2Proof.Machine

open Sys2Proof

variable (s : State)

/-! ### succeed -/

@[simp] theorem State.succeed_lc (v : OkValue) : (s.succeed v).lc = s.lc := rfl
@[simp] theorem State.succeed_addr (v : OkValue) : (s.succeed v).addr = s.addr := rfl
@[simp] theorem State.succeed_retries (v : OkValue) : (s.succeed v).retries = s.retries := rfl
@[simp] theorem State.succeed_timeout (v : OkValue) : (s.succeed v).timeout = s.timeout := rfl
@[simp] theorem State.succeed_kind (v : OkValue) : (s.succeed v).kind = s.kind := rfl
@[simp] theorem State.succeed_params (v : OkValue) : (s.succeed v).params = s.params := rfl
@[simp] theorem State.succeed_fsm (v : OkValue) : (s.succeed v).fsm = .idle := rfl
@[simp] theorem State.succeed_att (v : OkValue) : (s.succeed v).att = s.att := rfl
@[simp] theorem State.succeed_cmd (v : OkValue) : (s.succeed v).cmd = s.cmd := rfl
@[simp] theorem State.succeed_data (v : OkValue) : (s.succeed v).data = s.data := rfl
@[simp] theorem State.succeed_minlen (v : OkValue) : (s.succeed v).minlen = s.minlen := rfl
@[simp] theorem State.succeed_req (v : OkValue) : (s.succeed v).req = s.req := rfl
@[simp] theorem State.succeed_rx (v : OkValue) : (s.succeed v).rx = s.rx := rfl
@[simp] theorem State.succeed_lastRaw (v : OkValue) : (s.succeed v).lastRaw = s.lastRaw := rfl
@[simp] theorem State.succeed_allShort (v : OkValue) : (s.succeed v).allShort = s.allShort := rfl
@[simp] theorem State.succeed_lastErr (v : OkValue) : (s.succeed v).lastErr = s.lastErr := rfl
@[simp] theorem State.succeed_lastPe (v : OkValue) : (s.succeed v).lastPe = s.lastPe := rfl
@[simp] theorem State.succeed_crc (v : OkValue) : (s.succeed v).crc = s.crc := rfl
@[simp] theorem State.succeed_out (v : OkValue) : (s.succeed v).out = .ok v := rfl
@[simp] theorem State.succeed_refusedMark (v : OkValue) : (s.succeed v).refusedMark = s.refusedMark := rfl
@[simp] theorem State.succeed_availN (v : OkValue) : (s.succeed v).availN = s.availN := rfl
@[simp] theorem State.succeed_opCmd (v : OkValue) : (s.succeed v).opCmd = s.opCmd := rfl
@[simp] theorem State.succeed_opData (v : OkValue) : (s.succeed v).opData = s.opData := rfl
@[simp] theorem State.succeed_pending (v : OkValue) : (s.succeed v).pending = s.pending := rfl
@[simp] theorem State.succeed_tx (v : OkValue) : (s.succeed v).tx = s.tx := rfl
@[simp] theorem State.succeed_calls (v : OkValue) : (s.succeed v).calls = s.calls := rfl
@[simp] theorem State.succeed_inputs (v : OkValue) : (s.succeed v).inputs = s.inputs := rfl
@[simp] theorem State.succeed_drawCount (v : OkValue) : (s.succeed v).drawCount = s.drawCount := rfl
@[simp] theorem State.succeed_requests (v : OkValue) : (s.succeed v).requests = s.requests := rfl
@[simp] theorem State.succeed_hostMin (v : OkValue) : (s.succeed v).hostMin = s.hostMin := rfl
@[simp] theorem State.succeed_passportParams (v : OkValue) : (s.succeed v).passportParams = s.passportParams := rfl
@[simp] theorem State.succeed_hostOut (v : OkValue) : (s.succeed v).hostOut = s.hostOut := rfl

/-! ### fail -/

@[simp] theorem State.fail_lc (info : Info) : (s.fail info).lc = s.lc := rfl
@[simp] theorem State.fail_addr (info : Info) : (s.fail info).addr = s.addr := rfl
@[simp] theorem State.fail_retries (info : Info) : (s.fail info).retries = s.retries := rfl
@[simp] theorem State.fail_timeout (info : Info) : (s.fail info).timeout = s.timeout := rfl
@[simp] theorem State.fail_kind (info : Info) : (s.fail info).kind = s.kind := rfl
@[simp] theorem State.fail_params (info : Info) : (s.fail info).params = s.params := rfl
@[simp] theorem State.fail_fsm (info : Info) : (s.fail info).fsm = .idle := rfl
@[simp] theorem State.fail_att (info : Info) : (s.fail info).att = s.att := rfl
@[simp] theorem State.fail_cmd (info : Info) : (s.fail info).cmd = s.cmd := rfl
@[simp] theorem State.fail_data (info : Info) : (s.fail info).data = s.data := rfl
@[simp] theorem State.fail_minlen (info : Info) : (s.fail info).minlen = s.minlen := rfl
@[simp] theorem State.fail_req (info : Info) : (s.fail info).req = s.req := rfl
@[simp] theorem State.fail_rx (info : Info) : (s.fail info).rx = s.rx := rfl
@[simp] theorem State.fail_lastRaw (info : Info) : (s.fail info).lastRaw = s.lastRaw := rfl
@[simp] theorem State.fail_allShort (info : Info) : (s.fail info).allShort = s.allShort := rfl
@[simp] theorem State.fail_lastErr (info : Info) : (s.fail info).lastErr = s.lastErr := rfl
@[simp] theorem State.fail_lastPe (info : Info) : (s.fail info).lastPe = s.lastPe := rfl
@[simp] theorem State.fail_crc (info : Info) : (s.fail info).crc = s.crc := rfl
@[simp] theorem State.fail_out (info : Info) : (s.fail info).out = .err info := rfl
@[simp] theorem State.fail_refusedMark (info : Info) : (s.fail info).refusedMark = s.refusedMark := rfl
@[simp] theorem State.fail_availN (info : Info) : (s.fail info).availN = s.availN := rfl
@[simp] theorem State.fail_opCmd (info : Info) : (s.fail info).opCmd = s.opCmd := rfl
@[simp] theorem State.fail_opData (info : Info) : (s.fail info).opData = s.opData := rfl
@[simp] theorem State.fail_pending (info : Info) : (s.fail info).pending = s.pending := rfl
@[simp] theorem State.fail_tx (info : Info) : (s.fail info).tx = s.tx := rfl
@[simp] theorem State.fail_calls (info : Info) : (s.fail info).calls = s.calls := rfl
@[simp] theorem State.fail_inputs (info : Info) : (s.fail info).inputs = s.inputs := rfl
@[simp] theorem State.fail_drawCount (info : Info) : (s.fail info).drawCount = s.drawCount := rfl
@[simp] theorem State.fail_requests (info : Info) : (s.fail info).requests = s.requests := rfl
@[simp] theorem State.fail_hostMin (info : Info) : (s.fail info).hostMin = s.hostMin := rfl
@[simp] theorem State.fail_passportParams (info : Info) : (s.fail info).passportParams = s.passportParams := rfl
@[simp] theorem State.fail_hostOut (info : Info) : (s.fail info).hostOut = s.hostOut := rfl

/-! ### refuse -/

@[simp] theorem State.refuse_lc (r : RefusalReason) : (s.refuse r).lc = s.lc := rfl
@[simp] theorem State.refuse_addr (r : RefusalReason) : (s.refuse r).addr = s.addr := rfl
@[simp] theorem State.refuse_retries (r : RefusalReason) : (s.refuse r).retries = s.retries := rfl
@[simp] theorem State.refuse_timeout (r : RefusalReason) : (s.refuse r).timeout = s.timeout := rfl
@[simp] theorem State.refuse_kind (r : RefusalReason) : (s.refuse r).kind = s.kind := rfl
@[simp] theorem State.refuse_params (r : RefusalReason) : (s.refuse r).params = s.params := rfl
@[simp] theorem State.refuse_fsm (r : RefusalReason) : (s.refuse r).fsm = s.fsm := rfl
@[simp] theorem State.refuse_att (r : RefusalReason) : (s.refuse r).att = s.att := rfl
@[simp] theorem State.refuse_cmd (r : RefusalReason) : (s.refuse r).cmd = s.cmd := rfl
@[simp] theorem State.refuse_data (r : RefusalReason) : (s.refuse r).data = s.data := rfl
@[simp] theorem State.refuse_minlen (r : RefusalReason) : (s.refuse r).minlen = s.minlen := rfl
@[simp] theorem State.refuse_req (r : RefusalReason) : (s.refuse r).req = s.req := rfl
@[simp] theorem State.refuse_rx (r : RefusalReason) : (s.refuse r).rx = s.rx := rfl
@[simp] theorem State.refuse_lastRaw (r : RefusalReason) : (s.refuse r).lastRaw = s.lastRaw := rfl
@[simp] theorem State.refuse_allShort (r : RefusalReason) : (s.refuse r).allShort = s.allShort := rfl
@[simp] theorem State.refuse_lastErr (r : RefusalReason) : (s.refuse r).lastErr = s.lastErr := rfl
@[simp] theorem State.refuse_lastPe (r : RefusalReason) : (s.refuse r).lastPe = s.lastPe := rfl
@[simp] theorem State.refuse_crc (r : RefusalReason) : (s.refuse r).crc = s.crc := rfl
@[simp] theorem State.refuse_out (r : RefusalReason) : (s.refuse r).out = .refused r := rfl
@[simp] theorem State.refuse_refusedMark (r : RefusalReason) : (s.refuse r).refusedMark = true := rfl
@[simp] theorem State.refuse_availN (r : RefusalReason) : (s.refuse r).availN = s.availN := rfl
@[simp] theorem State.refuse_opCmd (r : RefusalReason) : (s.refuse r).opCmd = s.opCmd := rfl
@[simp] theorem State.refuse_opData (r : RefusalReason) : (s.refuse r).opData = s.opData := rfl
@[simp] theorem State.refuse_pending (r : RefusalReason) : (s.refuse r).pending = s.pending := rfl
@[simp] theorem State.refuse_tx (r : RefusalReason) : (s.refuse r).tx = s.tx := rfl
@[simp] theorem State.refuse_calls (r : RefusalReason) : (s.refuse r).calls = s.calls := rfl
@[simp] theorem State.refuse_inputs (r : RefusalReason) : (s.refuse r).inputs = s.inputs := rfl
@[simp] theorem State.refuse_drawCount (r : RefusalReason) : (s.refuse r).drawCount = s.drawCount := rfl
@[simp] theorem State.refuse_requests (r : RefusalReason) : (s.refuse r).requests = s.requests := rfl
@[simp] theorem State.refuse_hostMin (r : RefusalReason) : (s.refuse r).hostMin = s.hostMin := rfl
@[simp] theorem State.refuse_passportParams (r : RefusalReason) : (s.refuse r).passportParams = s.passportParams := rfl
@[simp] theorem State.refuse_hostOut (r : RefusalReason) : (s.refuse r).hostOut = s.hostOut := rfl

/-! ### useCrc -/

@[simp] theorem State.useCrc_lc (body : Bytes) : (s.useCrc body).lc = s.lc := rfl
@[simp] theorem State.useCrc_addr (body : Bytes) : (s.useCrc body).addr = s.addr := rfl
@[simp] theorem State.useCrc_retries (body : Bytes) : (s.useCrc body).retries = s.retries := rfl
@[simp] theorem State.useCrc_timeout (body : Bytes) : (s.useCrc body).timeout = s.timeout := rfl
@[simp] theorem State.useCrc_kind (body : Bytes) : (s.useCrc body).kind = s.kind := rfl
@[simp] theorem State.useCrc_params (body : Bytes) : (s.useCrc body).params = s.params := rfl
@[simp] theorem State.useCrc_fsm (body : Bytes) : (s.useCrc body).fsm = s.fsm := rfl
@[simp] theorem State.useCrc_att (body : Bytes) : (s.useCrc body).att = s.att := rfl
@[simp] theorem State.useCrc_cmd (body : Bytes) : (s.useCrc body).cmd = s.cmd := rfl
@[simp] theorem State.useCrc_data (body : Bytes) : (s.useCrc body).data = s.data := rfl
@[simp] theorem State.useCrc_minlen (body : Bytes) : (s.useCrc body).minlen = s.minlen := rfl
@[simp] theorem State.useCrc_req (body : Bytes) : (s.useCrc body).req = s.req := rfl
@[simp] theorem State.useCrc_rx (body : Bytes) : (s.useCrc body).rx = s.rx := rfl
@[simp] theorem State.useCrc_lastRaw (body : Bytes) : (s.useCrc body).lastRaw = s.lastRaw := rfl
@[simp] theorem State.useCrc_allShort (body : Bytes) : (s.useCrc body).allShort = s.allShort := rfl
@[simp] theorem State.useCrc_lastErr (body : Bytes) : (s.useCrc body).lastErr = s.lastErr := rfl
@[simp] theorem State.useCrc_lastPe (body : Bytes) : (s.useCrc body).lastPe = s.lastPe := rfl
@[simp] theorem State.useCrc_crc (body : Bytes) : (s.useCrc body).crc = crc16 body := rfl
@[simp] theorem State.useCrc_out (body : Bytes) : (s.useCrc body).out = s.out := rfl
@[simp] theorem State.useCrc_refusedMark (body : Bytes) : (s.useCrc body).refusedMark = s.refusedMark := rfl
@[simp] theorem State.useCrc_availN (body : Bytes) : (s.useCrc body).availN = s.availN := rfl
@[simp] theorem State.useCrc_opCmd (body : Bytes) : (s.useCrc body).opCmd = s.opCmd := rfl
@[simp] theorem State.useCrc_opData (body : Bytes) : (s.useCrc body).opData = s.opData := rfl
@[simp] theorem State.useCrc_pending (body : Bytes) : (s.useCrc body).pending = s.pending := rfl
@[simp] theorem State.useCrc_tx (body : Bytes) : (s.useCrc body).tx = s.tx := rfl
@[simp] theorem State.useCrc_calls (body : Bytes) : (s.useCrc body).calls = s.calls := rfl
@[simp] theorem State.useCrc_inputs (body : Bytes) : (s.useCrc body).inputs = s.inputs := rfl
@[simp] theorem State.useCrc_drawCount (body : Bytes) : (s.useCrc body).drawCount = s.drawCount := rfl
@[simp] theorem State.useCrc_requests (body : Bytes) : (s.useCrc body).requests = s.requests := rfl
@[simp] theorem State.useCrc_hostMin (body : Bytes) : (s.useCrc body).hostMin = s.hostMin := rfl
@[simp] theorem State.useCrc_passportParams (body : Bytes) : (s.useCrc body).passportParams = s.passportParams := rfl
@[simp] theorem State.useCrc_hostOut (body : Bytes) : (s.useCrc body).hostOut = s.hostOut := rfl

/-! ### callTransport -/

@[simp] theorem State.callTransport_lc (c : TransportCall) : (s.callTransport c).lc = s.lc := rfl
@[simp] theorem State.callTransport_addr (c : TransportCall) : (s.callTransport c).addr = s.addr := rfl
@[simp] theorem State.callTransport_retries (c : TransportCall) : (s.callTransport c).retries = s.retries := rfl
@[simp] theorem State.callTransport_timeout (c : TransportCall) : (s.callTransport c).timeout = s.timeout := rfl
@[simp] theorem State.callTransport_kind (c : TransportCall) : (s.callTransport c).kind = s.kind := rfl
@[simp] theorem State.callTransport_params (c : TransportCall) : (s.callTransport c).params = s.params := rfl
@[simp] theorem State.callTransport_fsm (c : TransportCall) : (s.callTransport c).fsm = s.fsm := rfl
@[simp] theorem State.callTransport_att (c : TransportCall) : (s.callTransport c).att = s.att := rfl
@[simp] theorem State.callTransport_cmd (c : TransportCall) : (s.callTransport c).cmd = s.cmd := rfl
@[simp] theorem State.callTransport_data (c : TransportCall) : (s.callTransport c).data = s.data := rfl
@[simp] theorem State.callTransport_minlen (c : TransportCall) : (s.callTransport c).minlen = s.minlen := rfl
@[simp] theorem State.callTransport_req (c : TransportCall) : (s.callTransport c).req = s.req := rfl
@[simp] theorem State.callTransport_rx (c : TransportCall) : (s.callTransport c).rx = s.rx := rfl
@[simp] theorem State.callTransport_lastRaw (c : TransportCall) : (s.callTransport c).lastRaw = s.lastRaw := rfl
@[simp] theorem State.callTransport_allShort (c : TransportCall) : (s.callTransport c).allShort = s.allShort := rfl
@[simp] theorem State.callTransport_lastErr (c : TransportCall) : (s.callTransport c).lastErr = s.lastErr := rfl
@[simp] theorem State.callTransport_lastPe (c : TransportCall) : (s.callTransport c).lastPe = s.lastPe := rfl
@[simp] theorem State.callTransport_crc (c : TransportCall) : (s.callTransport c).crc = s.crc := rfl
@[simp] theorem State.callTransport_out (c : TransportCall) : (s.callTransport c).out = s.out := rfl
@[simp] theorem State.callTransport_refusedMark (c : TransportCall) : (s.callTransport c).refusedMark = s.refusedMark := rfl
@[simp] theorem State.callTransport_availN (c : TransportCall) : (s.callTransport c).availN = s.availN := rfl
@[simp] theorem State.callTransport_opCmd (c : TransportCall) : (s.callTransport c).opCmd = s.opCmd := rfl
@[simp] theorem State.callTransport_opData (c : TransportCall) : (s.callTransport c).opData = s.opData := rfl
@[simp] theorem State.callTransport_pending (c : TransportCall) : (s.callTransport c).pending = s.pending ++ s.nextDraw.arrivals := rfl
@[simp] theorem State.callTransport_tx (c : TransportCall) : (s.callTransport c).tx = s.tx := rfl
@[simp] theorem State.callTransport_calls (c : TransportCall) : (s.callTransport c).calls = s.calls ++ [c] := rfl
@[simp] theorem State.callTransport_inputs (c : TransportCall) : (s.callTransport c).inputs = s.inputs.tail := rfl
@[simp] theorem State.callTransport_drawCount (c : TransportCall) : (s.callTransport c).drawCount = if s.inputs = [] then s.drawCount + 1 else s.drawCount := rfl
@[simp] theorem State.callTransport_requests (c : TransportCall) : (s.callTransport c).requests = s.requests := rfl
@[simp] theorem State.callTransport_hostMin (c : TransportCall) : (s.callTransport c).hostMin = s.hostMin := rfl
@[simp] theorem State.callTransport_passportParams (c : TransportCall) : (s.callTransport c).passportParams = s.passportParams := rfl
@[simp] theorem State.callTransport_hostOut (c : TransportCall) : (s.callTransport c).hostOut = s.hostOut := rfl

/-! ### initAttempts -/

@[simp] theorem State.initAttempts_lc : (s.initAttempts).lc = s.lc := rfl
@[simp] theorem State.initAttempts_addr : (s.initAttempts).addr = s.addr := rfl
@[simp] theorem State.initAttempts_retries : (s.initAttempts).retries = s.retries := rfl
@[simp] theorem State.initAttempts_timeout : (s.initAttempts).timeout = s.timeout := rfl
@[simp] theorem State.initAttempts_kind : (s.initAttempts).kind = s.kind := rfl
@[simp] theorem State.initAttempts_params : (s.initAttempts).params = s.params := rfl
@[simp] theorem State.initAttempts_fsm : (s.initAttempts).fsm = s.fsm := rfl
@[simp] theorem State.initAttempts_att : (s.initAttempts).att = 0 := rfl
@[simp] theorem State.initAttempts_cmd : (s.initAttempts).cmd = s.cmd := rfl
@[simp] theorem State.initAttempts_data : (s.initAttempts).data = s.data := rfl
@[simp] theorem State.initAttempts_minlen : (s.initAttempts).minlen = s.minlen := rfl
@[simp] theorem State.initAttempts_req : (s.initAttempts).req = s.req := rfl
@[simp] theorem State.initAttempts_rx : (s.initAttempts).rx = s.rx := rfl
@[simp] theorem State.initAttempts_lastRaw : (s.initAttempts).lastRaw = [] := rfl
@[simp] theorem State.initAttempts_allShort : (s.initAttempts).allShort = true := rfl
@[simp] theorem State.initAttempts_lastErr : (s.initAttempts).lastErr = none := rfl
@[simp] theorem State.initAttempts_lastPe : (s.initAttempts).lastPe = false := rfl
@[simp] theorem State.initAttempts_crc : (s.initAttempts).crc = s.crc := rfl
@[simp] theorem State.initAttempts_out : (s.initAttempts).out = s.out := rfl
@[simp] theorem State.initAttempts_refusedMark : (s.initAttempts).refusedMark = s.refusedMark := rfl
@[simp] theorem State.initAttempts_availN : (s.initAttempts).availN = s.availN := rfl
@[simp] theorem State.initAttempts_opCmd : (s.initAttempts).opCmd = s.opCmd := rfl
@[simp] theorem State.initAttempts_opData : (s.initAttempts).opData = s.opData := rfl
@[simp] theorem State.initAttempts_pending : (s.initAttempts).pending = s.pending := rfl
@[simp] theorem State.initAttempts_tx : (s.initAttempts).tx = s.tx := rfl
@[simp] theorem State.initAttempts_calls : (s.initAttempts).calls = s.calls := rfl
@[simp] theorem State.initAttempts_inputs : (s.initAttempts).inputs = s.inputs := rfl
@[simp] theorem State.initAttempts_drawCount : (s.initAttempts).drawCount = s.drawCount := rfl
@[simp] theorem State.initAttempts_requests : (s.initAttempts).requests = s.requests := rfl
@[simp] theorem State.initAttempts_hostMin : (s.initAttempts).hostMin = s.hostMin := rfl
@[simp] theorem State.initAttempts_passportParams : (s.initAttempts).passportParams = s.passportParams := rfl
@[simp] theorem State.initAttempts_hostOut : (s.initAttempts).hostOut = s.hostOut := rfl

/-! ### noteShort -/

@[simp] theorem State.noteShort_lc : (s.noteShort).lc = s.lc := rfl
@[simp] theorem State.noteShort_addr : (s.noteShort).addr = s.addr := rfl
@[simp] theorem State.noteShort_retries : (s.noteShort).retries = s.retries := rfl
@[simp] theorem State.noteShort_timeout : (s.noteShort).timeout = s.timeout := rfl
@[simp] theorem State.noteShort_kind : (s.noteShort).kind = s.kind := rfl
@[simp] theorem State.noteShort_params : (s.noteShort).params = s.params := rfl
@[simp] theorem State.noteShort_fsm : (s.noteShort).fsm = s.fsm := rfl
@[simp] theorem State.noteShort_att : (s.noteShort).att = s.att := rfl
@[simp] theorem State.noteShort_cmd : (s.noteShort).cmd = s.cmd := rfl
@[simp] theorem State.noteShort_data : (s.noteShort).data = s.data := rfl
@[simp] theorem State.noteShort_minlen : (s.noteShort).minlen = s.minlen := rfl
@[simp] theorem State.noteShort_req : (s.noteShort).req = s.req := rfl
@[simp] theorem State.noteShort_rx : (s.noteShort).rx = s.rx := rfl
@[simp] theorem State.noteShort_lastRaw : (s.noteShort).lastRaw = s.lastRaw := rfl
@[simp] theorem State.noteShort_allShort : (s.noteShort).allShort = s.allShort := rfl
@[simp] theorem State.noteShort_lastErr : (s.noteShort).lastErr = s.lastErr := rfl
@[simp] theorem State.noteShort_lastPe : (s.noteShort).lastPe = false := rfl
@[simp] theorem State.noteShort_crc : (s.noteShort).crc = s.crc := rfl
@[simp] theorem State.noteShort_out : (s.noteShort).out = s.out := rfl
@[simp] theorem State.noteShort_refusedMark : (s.noteShort).refusedMark = s.refusedMark := rfl
@[simp] theorem State.noteShort_availN : (s.noteShort).availN = s.availN := rfl
@[simp] theorem State.noteShort_opCmd : (s.noteShort).opCmd = s.opCmd := rfl
@[simp] theorem State.noteShort_opData : (s.noteShort).opData = s.opData := rfl
@[simp] theorem State.noteShort_pending : (s.noteShort).pending = s.pending := rfl
@[simp] theorem State.noteShort_tx : (s.noteShort).tx = s.tx := rfl
@[simp] theorem State.noteShort_calls : (s.noteShort).calls = s.calls := rfl
@[simp] theorem State.noteShort_inputs : (s.noteShort).inputs = s.inputs := rfl
@[simp] theorem State.noteShort_drawCount : (s.noteShort).drawCount = s.drawCount := rfl
@[simp] theorem State.noteShort_requests : (s.noteShort).requests = s.requests := rfl
@[simp] theorem State.noteShort_hostMin : (s.noteShort).hostMin = s.hostMin := rfl
@[simp] theorem State.noteShort_passportParams : (s.noteShort).passportParams = s.passportParams := rfl
@[simp] theorem State.noteShort_hostOut : (s.noteShort).hostOut = s.hostOut := rfl

/-! ### noteLong -/

@[simp] theorem State.noteLong_lc : (s.noteLong).lc = s.lc := rfl
@[simp] theorem State.noteLong_addr : (s.noteLong).addr = s.addr := rfl
@[simp] theorem State.noteLong_retries : (s.noteLong).retries = s.retries := rfl
@[simp] theorem State.noteLong_timeout : (s.noteLong).timeout = s.timeout := rfl
@[simp] theorem State.noteLong_kind : (s.noteLong).kind = s.kind := rfl
@[simp] theorem State.noteLong_params : (s.noteLong).params = s.params := rfl
@[simp] theorem State.noteLong_fsm : (s.noteLong).fsm = s.fsm := rfl
@[simp] theorem State.noteLong_att : (s.noteLong).att = s.att := rfl
@[simp] theorem State.noteLong_cmd : (s.noteLong).cmd = s.cmd := rfl
@[simp] theorem State.noteLong_data : (s.noteLong).data = s.data := rfl
@[simp] theorem State.noteLong_minlen : (s.noteLong).minlen = s.minlen := rfl
@[simp] theorem State.noteLong_req : (s.noteLong).req = s.req := rfl
@[simp] theorem State.noteLong_rx : (s.noteLong).rx = s.rx := rfl
@[simp] theorem State.noteLong_lastRaw : (s.noteLong).lastRaw = s.lastRaw := rfl
@[simp] theorem State.noteLong_allShort : (s.noteLong).allShort = false := rfl
@[simp] theorem State.noteLong_lastErr : (s.noteLong).lastErr = s.lastErr := rfl
@[simp] theorem State.noteLong_lastPe : (s.noteLong).lastPe = s.lastPe := rfl
@[simp] theorem State.noteLong_crc : (s.noteLong).crc = s.crc := rfl
@[simp] theorem State.noteLong_out : (s.noteLong).out = s.out := rfl
@[simp] theorem State.noteLong_refusedMark : (s.noteLong).refusedMark = s.refusedMark := rfl
@[simp] theorem State.noteLong_availN : (s.noteLong).availN = s.availN := rfl
@[simp] theorem State.noteLong_opCmd : (s.noteLong).opCmd = s.opCmd := rfl
@[simp] theorem State.noteLong_opData : (s.noteLong).opData = s.opData := rfl
@[simp] theorem State.noteLong_pending : (s.noteLong).pending = s.pending := rfl
@[simp] theorem State.noteLong_tx : (s.noteLong).tx = s.tx := rfl
@[simp] theorem State.noteLong_calls : (s.noteLong).calls = s.calls := rfl
@[simp] theorem State.noteLong_inputs : (s.noteLong).inputs = s.inputs := rfl
@[simp] theorem State.noteLong_drawCount : (s.noteLong).drawCount = s.drawCount := rfl
@[simp] theorem State.noteLong_requests : (s.noteLong).requests = s.requests := rfl
@[simp] theorem State.noteLong_hostMin : (s.noteLong).hostMin = s.hostMin := rfl
@[simp] theorem State.noteLong_passportParams : (s.noteLong).passportParams = s.passportParams := rfl
@[simp] theorem State.noteLong_hostOut : (s.noteLong).hostOut = s.hostOut := rfl

/-! ### noteParseError -/

@[simp] theorem State.noteParseError_lc (r : ParseReason) : (s.noteParseError r).lc = s.lc := rfl
@[simp] theorem State.noteParseError_addr (r : ParseReason) : (s.noteParseError r).addr = s.addr := rfl
@[simp] theorem State.noteParseError_retries (r : ParseReason) : (s.noteParseError r).retries = s.retries := rfl
@[simp] theorem State.noteParseError_timeout (r : ParseReason) : (s.noteParseError r).timeout = s.timeout := rfl
@[simp] theorem State.noteParseError_kind (r : ParseReason) : (s.noteParseError r).kind = s.kind := rfl
@[simp] theorem State.noteParseError_params (r : ParseReason) : (s.noteParseError r).params = s.params := rfl
@[simp] theorem State.noteParseError_fsm (r : ParseReason) : (s.noteParseError r).fsm = s.fsm := rfl
@[simp] theorem State.noteParseError_att (r : ParseReason) : (s.noteParseError r).att = s.att := rfl
@[simp] theorem State.noteParseError_cmd (r : ParseReason) : (s.noteParseError r).cmd = s.cmd := rfl
@[simp] theorem State.noteParseError_data (r : ParseReason) : (s.noteParseError r).data = s.data := rfl
@[simp] theorem State.noteParseError_minlen (r : ParseReason) : (s.noteParseError r).minlen = s.minlen := rfl
@[simp] theorem State.noteParseError_req (r : ParseReason) : (s.noteParseError r).req = s.req := rfl
@[simp] theorem State.noteParseError_rx (r : ParseReason) : (s.noteParseError r).rx = s.rx := rfl
@[simp] theorem State.noteParseError_lastRaw (r : ParseReason) : (s.noteParseError r).lastRaw = s.lastRaw := rfl
@[simp] theorem State.noteParseError_allShort (r : ParseReason) : (s.noteParseError r).allShort = s.allShort := rfl
@[simp] theorem State.noteParseError_lastErr (r : ParseReason) : (s.noteParseError r).lastErr = some r := rfl
@[simp] theorem State.noteParseError_lastPe (r : ParseReason) : (s.noteParseError r).lastPe = true := rfl
@[simp] theorem State.noteParseError_crc (r : ParseReason) : (s.noteParseError r).crc = s.crc := rfl
@[simp] theorem State.noteParseError_out (r : ParseReason) : (s.noteParseError r).out = s.out := rfl
@[simp] theorem State.noteParseError_refusedMark (r : ParseReason) : (s.noteParseError r).refusedMark = s.refusedMark := rfl
@[simp] theorem State.noteParseError_availN (r : ParseReason) : (s.noteParseError r).availN = s.availN := rfl
@[simp] theorem State.noteParseError_opCmd (r : ParseReason) : (s.noteParseError r).opCmd = s.opCmd := rfl
@[simp] theorem State.noteParseError_opData (r : ParseReason) : (s.noteParseError r).opData = s.opData := rfl
@[simp] theorem State.noteParseError_pending (r : ParseReason) : (s.noteParseError r).pending = s.pending := rfl
@[simp] theorem State.noteParseError_tx (r : ParseReason) : (s.noteParseError r).tx = s.tx := rfl
@[simp] theorem State.noteParseError_calls (r : ParseReason) : (s.noteParseError r).calls = s.calls := rfl
@[simp] theorem State.noteParseError_inputs (r : ParseReason) : (s.noteParseError r).inputs = s.inputs := rfl
@[simp] theorem State.noteParseError_drawCount (r : ParseReason) : (s.noteParseError r).drawCount = s.drawCount := rfl
@[simp] theorem State.noteParseError_requests (r : ParseReason) : (s.noteParseError r).requests = s.requests := rfl
@[simp] theorem State.noteParseError_hostMin (r : ParseReason) : (s.noteParseError r).hostMin = s.hostMin := rfl
@[simp] theorem State.noteParseError_passportParams (r : ParseReason) : (s.noteParseError r).passportParams = s.passportParams := rfl
@[simp] theorem State.noteParseError_hostOut (r : ParseReason) : (s.noteParseError r).hostOut = s.hostOut := rfl

/-! ### abort -/

@[simp] theorem State.abort_lc (r : Reason) (raw : Bytes) : (s.abort r raw).lc = s.lc := rfl
@[simp] theorem State.abort_addr (r : Reason) (raw : Bytes) : (s.abort r raw).addr = s.addr := rfl
@[simp] theorem State.abort_retries (r : Reason) (raw : Bytes) : (s.abort r raw).retries = s.retries := rfl
@[simp] theorem State.abort_timeout (r : Reason) (raw : Bytes) : (s.abort r raw).timeout = s.timeout := rfl
@[simp] theorem State.abort_kind (r : Reason) (raw : Bytes) : (s.abort r raw).kind = s.kind := rfl
@[simp] theorem State.abort_params (r : Reason) (raw : Bytes) : (s.abort r raw).params = s.params := rfl
@[simp] theorem State.abort_fsm (r : Reason) (raw : Bytes) : (s.abort r raw).fsm = .idle := rfl
@[simp] theorem State.abort_att (r : Reason) (raw : Bytes) : (s.abort r raw).att = s.att := rfl
@[simp] theorem State.abort_cmd (r : Reason) (raw : Bytes) : (s.abort r raw).cmd = s.cmd := rfl
@[simp] theorem State.abort_data (r : Reason) (raw : Bytes) : (s.abort r raw).data = s.data := rfl
@[simp] theorem State.abort_minlen (r : Reason) (raw : Bytes) : (s.abort r raw).minlen = s.minlen := rfl
@[simp] theorem State.abort_req (r : Reason) (raw : Bytes) : (s.abort r raw).req = s.req := rfl
@[simp] theorem State.abort_rx (r : Reason) (raw : Bytes) : (s.abort r raw).rx = s.rx := rfl
@[simp] theorem State.abort_lastRaw (r : Reason) (raw : Bytes) : (s.abort r raw).lastRaw = s.lastRaw := rfl
@[simp] theorem State.abort_allShort (r : Reason) (raw : Bytes) : (s.abort r raw).allShort = s.allShort := rfl
@[simp] theorem State.abort_lastErr (r : Reason) (raw : Bytes) : (s.abort r raw).lastErr = s.lastErr := rfl
@[simp] theorem State.abort_lastPe (r : Reason) (raw : Bytes) : (s.abort r raw).lastPe = s.lastPe := rfl
@[simp] theorem State.abort_crc (r : Reason) (raw : Bytes) : (s.abort r raw).crc = s.crc := rfl
@[simp] theorem State.abort_out (r : Reason) (raw : Bytes) : (s.abort r raw).out = .err ⟨r, some s.addr, some s.cmd, some (s.att + 1), some raw, none⟩ := rfl
@[simp] theorem State.abort_refusedMark (r : Reason) (raw : Bytes) : (s.abort r raw).refusedMark = s.refusedMark := rfl
@[simp] theorem State.abort_availN (r : Reason) (raw : Bytes) : (s.abort r raw).availN = s.availN := rfl
@[simp] theorem State.abort_opCmd (r : Reason) (raw : Bytes) : (s.abort r raw).opCmd = s.opCmd := rfl
@[simp] theorem State.abort_opData (r : Reason) (raw : Bytes) : (s.abort r raw).opData = s.opData := rfl
@[simp] theorem State.abort_pending (r : Reason) (raw : Bytes) : (s.abort r raw).pending = s.pending := rfl
@[simp] theorem State.abort_tx (r : Reason) (raw : Bytes) : (s.abort r raw).tx = s.tx := rfl
@[simp] theorem State.abort_calls (r : Reason) (raw : Bytes) : (s.abort r raw).calls = s.calls := rfl
@[simp] theorem State.abort_inputs (r : Reason) (raw : Bytes) : (s.abort r raw).inputs = s.inputs := rfl
@[simp] theorem State.abort_drawCount (r : Reason) (raw : Bytes) : (s.abort r raw).drawCount = s.drawCount := rfl
@[simp] theorem State.abort_requests (r : Reason) (raw : Bytes) : (s.abort r raw).requests = s.requests := rfl
@[simp] theorem State.abort_hostMin (r : Reason) (raw : Bytes) : (s.abort r raw).hostMin = s.hostMin := rfl
@[simp] theorem State.abort_passportParams (r : Reason) (raw : Bytes) : (s.abort r raw).passportParams = s.passportParams := rfl
@[simp] theorem State.abort_hostOut (r : Reason) (raw : Bytes) : (s.abort r raw).hostOut = s.hostOut := rfl

/-! ### nextAttempt -/

@[simp] theorem State.nextAttempt_lc : (s.nextAttempt).lc = s.lc := rfl
@[simp] theorem State.nextAttempt_addr : (s.nextAttempt).addr = s.addr := rfl
@[simp] theorem State.nextAttempt_retries : (s.nextAttempt).retries = s.retries := rfl
@[simp] theorem State.nextAttempt_timeout : (s.nextAttempt).timeout = s.timeout := rfl
@[simp] theorem State.nextAttempt_kind : (s.nextAttempt).kind = s.kind := rfl
@[simp] theorem State.nextAttempt_params : (s.nextAttempt).params = s.params := rfl
@[simp] theorem State.nextAttempt_fsm : (s.nextAttempt).fsm = if s.att < s.retries + 1 then .discard else .classify := rfl
@[simp] theorem State.nextAttempt_att : (s.nextAttempt).att = s.att := rfl
@[simp] theorem State.nextAttempt_cmd : (s.nextAttempt).cmd = s.cmd := rfl
@[simp] theorem State.nextAttempt_data : (s.nextAttempt).data = s.data := rfl
@[simp] theorem State.nextAttempt_minlen : (s.nextAttempt).minlen = s.minlen := rfl
@[simp] theorem State.nextAttempt_req : (s.nextAttempt).req = s.req := rfl
@[simp] theorem State.nextAttempt_rx : (s.nextAttempt).rx = s.rx := rfl
@[simp] theorem State.nextAttempt_lastRaw : (s.nextAttempt).lastRaw = s.lastRaw := rfl
@[simp] theorem State.nextAttempt_allShort : (s.nextAttempt).allShort = s.allShort := rfl
@[simp] theorem State.nextAttempt_lastErr : (s.nextAttempt).lastErr = s.lastErr := rfl
@[simp] theorem State.nextAttempt_lastPe : (s.nextAttempt).lastPe = s.lastPe := rfl
@[simp] theorem State.nextAttempt_crc : (s.nextAttempt).crc = s.crc := rfl
@[simp] theorem State.nextAttempt_out : (s.nextAttempt).out = s.out := rfl
@[simp] theorem State.nextAttempt_refusedMark : (s.nextAttempt).refusedMark = s.refusedMark := rfl
@[simp] theorem State.nextAttempt_availN : (s.nextAttempt).availN = s.availN := rfl
@[simp] theorem State.nextAttempt_opCmd : (s.nextAttempt).opCmd = s.opCmd := rfl
@[simp] theorem State.nextAttempt_opData : (s.nextAttempt).opData = s.opData := rfl
@[simp] theorem State.nextAttempt_pending : (s.nextAttempt).pending = s.pending := rfl
@[simp] theorem State.nextAttempt_tx : (s.nextAttempt).tx = s.tx := rfl
@[simp] theorem State.nextAttempt_calls : (s.nextAttempt).calls = s.calls := rfl
@[simp] theorem State.nextAttempt_inputs : (s.nextAttempt).inputs = s.inputs := rfl
@[simp] theorem State.nextAttempt_drawCount : (s.nextAttempt).drawCount = s.drawCount := rfl
@[simp] theorem State.nextAttempt_requests : (s.nextAttempt).requests = s.requests := rfl
@[simp] theorem State.nextAttempt_hostMin : (s.nextAttempt).hostMin = s.hostMin := rfl
@[simp] theorem State.nextAttempt_passportParams : (s.nextAttempt).passportParams = s.passportParams := rfl
@[simp] theorem State.nextAttempt_hostOut : (s.nextAttempt).hostOut = s.hostOut := rfl

/-! ### endReceive -/

@[simp] theorem State.endReceive_lc : (s.endReceive).lc = s.lc := rfl
@[simp] theorem State.endReceive_addr : (s.endReceive).addr = s.addr := rfl
@[simp] theorem State.endReceive_retries : (s.endReceive).retries = s.retries := rfl
@[simp] theorem State.endReceive_timeout : (s.endReceive).timeout = s.timeout := rfl
@[simp] theorem State.endReceive_kind : (s.endReceive).kind = s.kind := rfl
@[simp] theorem State.endReceive_params : (s.endReceive).params = s.params := rfl
@[simp] theorem State.endReceive_fsm : (s.endReceive).fsm = .checkLen := rfl
@[simp] theorem State.endReceive_att : (s.endReceive).att = s.att + 1 := rfl
@[simp] theorem State.endReceive_cmd : (s.endReceive).cmd = s.cmd := rfl
@[simp] theorem State.endReceive_data : (s.endReceive).data = s.data := rfl
@[simp] theorem State.endReceive_minlen : (s.endReceive).minlen = s.minlen := rfl
@[simp] theorem State.endReceive_req : (s.endReceive).req = s.req := rfl
@[simp] theorem State.endReceive_rx : (s.endReceive).rx = s.rx := rfl
@[simp] theorem State.endReceive_lastRaw : (s.endReceive).lastRaw = s.rx := rfl
@[simp] theorem State.endReceive_allShort : (s.endReceive).allShort = s.allShort := rfl
@[simp] theorem State.endReceive_lastErr : (s.endReceive).lastErr = s.lastErr := rfl
@[simp] theorem State.endReceive_lastPe : (s.endReceive).lastPe = s.lastPe := rfl
@[simp] theorem State.endReceive_crc : (s.endReceive).crc = s.crc := rfl
@[simp] theorem State.endReceive_out : (s.endReceive).out = s.out := rfl
@[simp] theorem State.endReceive_refusedMark : (s.endReceive).refusedMark = s.refusedMark := rfl
@[simp] theorem State.endReceive_availN : (s.endReceive).availN = s.availN := rfl
@[simp] theorem State.endReceive_opCmd : (s.endReceive).opCmd = s.opCmd := rfl
@[simp] theorem State.endReceive_opData : (s.endReceive).opData = s.opData := rfl
@[simp] theorem State.endReceive_pending : (s.endReceive).pending = s.pending := rfl
@[simp] theorem State.endReceive_tx : (s.endReceive).tx = s.tx := rfl
@[simp] theorem State.endReceive_calls : (s.endReceive).calls = s.calls := rfl
@[simp] theorem State.endReceive_inputs : (s.endReceive).inputs = s.inputs := rfl
@[simp] theorem State.endReceive_drawCount : (s.endReceive).drawCount = s.drawCount := rfl
@[simp] theorem State.endReceive_requests : (s.endReceive).requests = s.requests := rfl
@[simp] theorem State.endReceive_hostMin : (s.endReceive).hostMin = s.hostMin := rfl
@[simp] theorem State.endReceive_passportParams : (s.endReceive).passportParams = s.passportParams := rfl
@[simp] theorem State.endReceive_hostOut : (s.endReceive).hostOut = s.hostOut := rfl

/-! ### latchExchange -/

@[simp] theorem State.latchExchange_lc (c : Int) (d : List Int) (m : Nat) : (s.latchExchange c d m).lc = s.lc := rfl
@[simp] theorem State.latchExchange_addr (c : Int) (d : List Int) (m : Nat) : (s.latchExchange c d m).addr = s.addr := rfl
@[simp] theorem State.latchExchange_retries (c : Int) (d : List Int) (m : Nat) : (s.latchExchange c d m).retries = s.retries := rfl
@[simp] theorem State.latchExchange_timeout (c : Int) (d : List Int) (m : Nat) : (s.latchExchange c d m).timeout = s.timeout := rfl
@[simp] theorem State.latchExchange_kind (c : Int) (d : List Int) (m : Nat) : (s.latchExchange c d m).kind = s.kind := rfl
@[simp] theorem State.latchExchange_params (c : Int) (d : List Int) (m : Nat) : (s.latchExchange c d m).params = s.params := rfl
@[simp] theorem State.latchExchange_fsm (c : Int) (d : List Int) (m : Nat) : (s.latchExchange c d m).fsm = .build := rfl
@[simp] theorem State.latchExchange_att (c : Int) (d : List Int) (m : Nat) : (s.latchExchange c d m).att = s.att := rfl
@[simp] theorem State.latchExchange_cmd (c : Int) (d : List Int) (m : Nat) : (s.latchExchange c d m).cmd = latchByte c := rfl
@[simp] theorem State.latchExchange_data (c : Int) (d : List Int) (m : Nat) : (s.latchExchange c d m).data = d.map latchByte := rfl
@[simp] theorem State.latchExchange_minlen (c : Int) (d : List Int) (m : Nat) : (s.latchExchange c d m).minlen = m := rfl
@[simp] theorem State.latchExchange_req (c : Int) (d : List Int) (m : Nat) : (s.latchExchange c d m).req = s.req := rfl
@[simp] theorem State.latchExchange_rx (c : Int) (d : List Int) (m : Nat) : (s.latchExchange c d m).rx = s.rx := rfl
@[simp] theorem State.latchExchange_lastRaw (c : Int) (d : List Int) (m : Nat) : (s.latchExchange c d m).lastRaw = s.lastRaw := rfl
@[simp] theorem State.latchExchange_allShort (c : Int) (d : List Int) (m : Nat) : (s.latchExchange c d m).allShort = s.allShort := rfl
@[simp] theorem State.latchExchange_lastErr (c : Int) (d : List Int) (m : Nat) : (s.latchExchange c d m).lastErr = s.lastErr := rfl
@[simp] theorem State.latchExchange_lastPe (c : Int) (d : List Int) (m : Nat) : (s.latchExchange c d m).lastPe = s.lastPe := rfl
@[simp] theorem State.latchExchange_crc (c : Int) (d : List Int) (m : Nat) : (s.latchExchange c d m).crc = s.crc := rfl
@[simp] theorem State.latchExchange_out (c : Int) (d : List Int) (m : Nat) : (s.latchExchange c d m).out = s.out := rfl
@[simp] theorem State.latchExchange_refusedMark (c : Int) (d : List Int) (m : Nat) : (s.latchExchange c d m).refusedMark = s.refusedMark := rfl
@[simp] theorem State.latchExchange_availN (c : Int) (d : List Int) (m : Nat) : (s.latchExchange c d m).availN = s.availN := rfl
@[simp] theorem State.latchExchange_opCmd (c : Int) (d : List Int) (m : Nat) : (s.latchExchange c d m).opCmd = c := rfl
@[simp] theorem State.latchExchange_opData (c : Int) (d : List Int) (m : Nat) : (s.latchExchange c d m).opData = d := rfl
@[simp] theorem State.latchExchange_pending (c : Int) (d : List Int) (m : Nat) : (s.latchExchange c d m).pending = s.pending := rfl
@[simp] theorem State.latchExchange_tx (c : Int) (d : List Int) (m : Nat) : (s.latchExchange c d m).tx = s.tx := rfl
@[simp] theorem State.latchExchange_calls (c : Int) (d : List Int) (m : Nat) : (s.latchExchange c d m).calls = s.calls := rfl
@[simp] theorem State.latchExchange_inputs (c : Int) (d : List Int) (m : Nat) : (s.latchExchange c d m).inputs = s.inputs := rfl
@[simp] theorem State.latchExchange_drawCount (c : Int) (d : List Int) (m : Nat) : (s.latchExchange c d m).drawCount = s.drawCount := rfl
@[simp] theorem State.latchExchange_requests (c : Int) (d : List Int) (m : Nat) : (s.latchExchange c d m).requests = s.requests := rfl
@[simp] theorem State.latchExchange_hostMin (c : Int) (d : List Int) (m : Nat) : (s.latchExchange c d m).hostMin = s.hostMin := rfl
@[simp] theorem State.latchExchange_passportParams (c : Int) (d : List Int) (m : Nat) : (s.latchExchange c d m).passportParams = s.passportParams := rfl
@[simp] theorem State.latchExchange_hostOut (c : Int) (d : List Int) (m : Nat) : (s.latchExchange c d m).hostOut = s.hostOut := rfl

/-! ### loadConfig -/

@[simp] theorem State.loadConfig_lc (c : Configuration) (p : OpenParams) : (s.loadConfig c p).lc = .opened := rfl
@[simp] theorem State.loadConfig_addr (c : Configuration) (p : OpenParams) : (s.loadConfig c p).addr = c.addr := rfl
@[simp] theorem State.loadConfig_retries (c : Configuration) (p : OpenParams) : (s.loadConfig c p).retries = c.retries := rfl
@[simp] theorem State.loadConfig_timeout (c : Configuration) (p : OpenParams) : (s.loadConfig c p).timeout = c.timeout := rfl
@[simp] theorem State.loadConfig_kind (c : Configuration) (p : OpenParams) : (s.loadConfig c p).kind = c.kind := rfl
@[simp] theorem State.loadConfig_params (c : Configuration) (p : OpenParams) : (s.loadConfig c p).params = p := rfl
@[simp] theorem State.loadConfig_fsm (c : Configuration) (p : OpenParams) : (s.loadConfig c p).fsm = s.fsm := rfl
@[simp] theorem State.loadConfig_att (c : Configuration) (p : OpenParams) : (s.loadConfig c p).att = s.att := rfl
@[simp] theorem State.loadConfig_cmd (c : Configuration) (p : OpenParams) : (s.loadConfig c p).cmd = s.cmd := rfl
@[simp] theorem State.loadConfig_data (c : Configuration) (p : OpenParams) : (s.loadConfig c p).data = s.data := rfl
@[simp] theorem State.loadConfig_minlen (c : Configuration) (p : OpenParams) : (s.loadConfig c p).minlen = s.minlen := rfl
@[simp] theorem State.loadConfig_req (c : Configuration) (p : OpenParams) : (s.loadConfig c p).req = s.req := rfl
@[simp] theorem State.loadConfig_rx (c : Configuration) (p : OpenParams) : (s.loadConfig c p).rx = s.rx := rfl
@[simp] theorem State.loadConfig_lastRaw (c : Configuration) (p : OpenParams) : (s.loadConfig c p).lastRaw = s.lastRaw := rfl
@[simp] theorem State.loadConfig_allShort (c : Configuration) (p : OpenParams) : (s.loadConfig c p).allShort = s.allShort := rfl
@[simp] theorem State.loadConfig_lastErr (c : Configuration) (p : OpenParams) : (s.loadConfig c p).lastErr = s.lastErr := rfl
@[simp] theorem State.loadConfig_lastPe (c : Configuration) (p : OpenParams) : (s.loadConfig c p).lastPe = s.lastPe := rfl
@[simp] theorem State.loadConfig_crc (c : Configuration) (p : OpenParams) : (s.loadConfig c p).crc = s.crc := rfl
@[simp] theorem State.loadConfig_out (c : Configuration) (p : OpenParams) : (s.loadConfig c p).out = s.out := rfl
@[simp] theorem State.loadConfig_refusedMark (c : Configuration) (p : OpenParams) : (s.loadConfig c p).refusedMark = s.refusedMark := rfl
@[simp] theorem State.loadConfig_availN (c : Configuration) (p : OpenParams) : (s.loadConfig c p).availN = s.availN := rfl
@[simp] theorem State.loadConfig_opCmd (c : Configuration) (p : OpenParams) : (s.loadConfig c p).opCmd = s.opCmd := rfl
@[simp] theorem State.loadConfig_opData (c : Configuration) (p : OpenParams) : (s.loadConfig c p).opData = s.opData := rfl
@[simp] theorem State.loadConfig_pending (c : Configuration) (p : OpenParams) : (s.loadConfig c p).pending = s.pending := rfl
@[simp] theorem State.loadConfig_tx (c : Configuration) (p : OpenParams) : (s.loadConfig c p).tx = s.tx := rfl
@[simp] theorem State.loadConfig_calls (c : Configuration) (p : OpenParams) : (s.loadConfig c p).calls = s.calls := rfl
@[simp] theorem State.loadConfig_inputs (c : Configuration) (p : OpenParams) : (s.loadConfig c p).inputs = s.inputs := rfl
@[simp] theorem State.loadConfig_drawCount (c : Configuration) (p : OpenParams) : (s.loadConfig c p).drawCount = s.drawCount := rfl
@[simp] theorem State.loadConfig_requests (c : Configuration) (p : OpenParams) : (s.loadConfig c p).requests = s.requests := rfl
@[simp] theorem State.loadConfig_hostMin (c : Configuration) (p : OpenParams) : (s.loadConfig c p).hostMin = s.hostMin := rfl
@[simp] theorem State.loadConfig_passportParams (c : Configuration) (p : OpenParams) : (s.loadConfig c p).passportParams = s.passportParams := rfl
@[simp] theorem State.loadConfig_hostOut (c : Configuration) (p : OpenParams) : (s.loadConfig c p).hostOut = s.hostOut := rfl

/-! ### popRequest -/

@[simp] theorem State.popRequest_lc : (s.popRequest).lc = s.lc := rfl
@[simp] theorem State.popRequest_addr : (s.popRequest).addr = s.addr := rfl
@[simp] theorem State.popRequest_retries : (s.popRequest).retries = s.retries := rfl
@[simp] theorem State.popRequest_timeout : (s.popRequest).timeout = s.timeout := rfl
@[simp] theorem State.popRequest_kind : (s.popRequest).kind = s.kind := rfl
@[simp] theorem State.popRequest_params : (s.popRequest).params = s.params := rfl
@[simp] theorem State.popRequest_fsm : (s.popRequest).fsm = s.fsm := rfl
@[simp] theorem State.popRequest_att : (s.popRequest).att = s.att := rfl
@[simp] theorem State.popRequest_cmd : (s.popRequest).cmd = s.cmd := rfl
@[simp] theorem State.popRequest_data : (s.popRequest).data = s.data := rfl
@[simp] theorem State.popRequest_minlen : (s.popRequest).minlen = s.minlen := rfl
@[simp] theorem State.popRequest_req : (s.popRequest).req = s.req := rfl
@[simp] theorem State.popRequest_rx : (s.popRequest).rx = s.rx := rfl
@[simp] theorem State.popRequest_lastRaw : (s.popRequest).lastRaw = s.lastRaw := rfl
@[simp] theorem State.popRequest_allShort : (s.popRequest).allShort = s.allShort := rfl
@[simp] theorem State.popRequest_lastErr : (s.popRequest).lastErr = s.lastErr := rfl
@[simp] theorem State.popRequest_lastPe : (s.popRequest).lastPe = s.lastPe := rfl
@[simp] theorem State.popRequest_crc : (s.popRequest).crc = s.crc := rfl
@[simp] theorem State.popRequest_out : (s.popRequest).out = s.out := rfl
@[simp] theorem State.popRequest_refusedMark : (s.popRequest).refusedMark = s.refusedMark := rfl
@[simp] theorem State.popRequest_availN : (s.popRequest).availN = s.availN := rfl
@[simp] theorem State.popRequest_opCmd : (s.popRequest).opCmd = s.opCmd := rfl
@[simp] theorem State.popRequest_opData : (s.popRequest).opData = s.opData := rfl
@[simp] theorem State.popRequest_pending : (s.popRequest).pending = s.pending := rfl
@[simp] theorem State.popRequest_tx : (s.popRequest).tx = s.tx := rfl
@[simp] theorem State.popRequest_calls : (s.popRequest).calls = s.calls := rfl
@[simp] theorem State.popRequest_inputs : (s.popRequest).inputs = s.inputs := rfl
@[simp] theorem State.popRequest_drawCount : (s.popRequest).drawCount = s.drawCount := rfl
@[simp] theorem State.popRequest_requests : (s.popRequest).requests = s.requests.tail := rfl
@[simp] theorem State.popRequest_hostMin : (s.popRequest).hostMin = s.hostMin := rfl
@[simp] theorem State.popRequest_passportParams : (s.popRequest).passportParams = s.passportParams := rfl
@[simp] theorem State.popRequest_hostOut : (s.popRequest).hostOut = s.hostOut := rfl

end Sys2Proof.Machine
end

