-- ==== Sys2Proof/Laws/Ops.lean ====
section
/-!
SUPPORT. What the shared operations can do, one lemma each: later proofs cite these and do not unfold the operations.
-/
namespace Sys2Proof.Machine

open Sys2Proof

/-! ### Answers of the environment -/

/-- The next answer is the first scripted one, where there is one. -/
theorem nextDraw_of_inputs {s : State} {d : Draw} {rest : List Draw} (h : s.inputs = d :: rest) : s.nextDraw = d := by
  simp [State.nextDraw, h]

/-- The next answer is a free value, where none is scripted. -/
theorem nextDraw_of_no_inputs {s : State} (h : s.inputs = []) : s.nextDraw = Config.freeDraw s.drawCount := by
  simp [State.nextDraw, h]

/-! ### Operations that end at once -/

/-- In IDLE an operation runs. -/
@[simp] theorem whenIdle_of_idle {s : State} (h : s.fsm = .idle) (body : State → State) : s.whenIdle body = body s := by
  simp [State.whenIdle, h]

/-- While an EXCHANGE runs an operation is refused with BUSY (R326). -/
theorem whenIdle_of_busy {s : State} (h : s.fsm ≠ .idle) (body : State → State) : s.whenIdle body = s.refuse .busy := by
  simp [State.whenIdle, h]

/-- PARSE changes the CRC register at most. -/
theorem useCrcToParse_eq (s : State) (f : Bytes) :
    s.useCrcToParse f = { s with crc := if f.length < Config.minFrame then s.crc else crc16 (checkedPart f) } := by
  unfold State.useCrcToParse
  split
  · rfl
  · rfl

/-! ### Transport primitives: what each can do -/

/-- `T.open` returns, or fails, after one call. -/
theorem transportOpen_cases (kind : TransportKind) (params : OpenParams) (s : State) :
    (s.nextDraw.fails = true ∧ transportOpen kind params s = .ioError (s.callTransport (.connect kind params))) ∨
    (s.nextDraw.fails = false ∧ transportOpen kind params s = .returned () (s.callTransport (.connect kind params))) := by
  unfold transportOpen
  cases h : s.nextDraw.fails <;> simp

/-- `T.discard` empties PENDING, or fails. -/
theorem transportDiscard_cases (s : State) :
    (s.nextDraw.fails = true ∧ transportDiscard s = .ioError (s.callTransport .discard)) ∨
    (s.nextDraw.fails = false ∧ transportDiscard s = .returned () { s.callTransport .discard with pending := [] }) := by
  unfold transportDiscard
  cases h : s.nextDraw.fails <;> simp

/-- `T.write` appends the whole string to the transmit stream, or fails and appends nothing. -/
theorem transportWrite_cases (bytes : Bytes) (s : State) :
    (s.nextDraw.fails = true ∧ transportWrite bytes s = .ioError (s.callTransport (.write bytes))) ∨
    (s.nextDraw.fails = false ∧
      transportWrite bytes s = .returned s.nextDraw.count { s.callTransport (.write bytes) with tx := s.tx ++ bytes }) := by
  unfold transportWrite
  cases h : s.nextDraw.fails <;> simp

/-- `T.read` takes a front part of what is pending, no longer than `max`, or fails and takes nothing. -/
theorem transportRead_cases (max : Nat) (s : State) :
    (s.nextDraw.fails = true ∧ transportRead max s = .ioError (s.callTransport (.read max))) ∨
    (s.nextDraw.fails = false ∧ ∃ k, k ≤ max ∧ k ≤ (s.pending ++ s.nextDraw.arrivals).length ∧
      transportRead max s = .returned ((s.pending ++ s.nextDraw.arrivals).take k)
        { s.callTransport (.read max) with pending := (s.pending ++ s.nextDraw.arrivals).drop k }) := by
  unfold transportRead
  cases h : s.nextDraw.fails
  · refine Or.inr ⟨rfl, readLength s max, ?_, ?_, by simp⟩
    · unfold readLength
      omega
    · simp only [List.length_append]
      unfold readLength
      omega
  · exact Or.inl ⟨rfl, by simp⟩

/-- `T.avail` answers a number and leaves PENDING's bytes, or fails. -/
theorem transportAvail_cases (s : State) :
    (s.nextDraw.fails = true ∧ transportAvail s = .ioError (s.callTransport .avail)) ∨
    (s.nextDraw.fails = false ∧ transportAvail s = .returned s.nextDraw.count (s.callTransport .avail)) := by
  unfold transportAvail
  cases h : s.nextDraw.fails <;> simp

/-- The range checks pass exactly when every integer is a byte. -/
theorem checkRanges_eq_none (a c : Int) (d : List Int) :
    checkRanges a c d = none ↔ inByte a = true ∧ inByte c = true ∧ d.all inByte = true := by
  unfold checkRanges
  cases inByte a <;> cases inByte c <;> cases d.all inByte <;> simp

/-- BUILD gives a frame exactly when the range checks pass. -/
theorem buildRequest_of_ranges {a c : Int} {d : List Int} (ha : inByte a = true) (hc : inByte c = true)
    (hd : d.all inByte = true) : buildRequest a c d = .ok (frame (toByte a) (toByte c) (d.map toByte)) := by
  simp [buildRequest, (checkRanges_eq_none a c d).2 ⟨ha, hc, hd⟩]

end Sys2Proof.Machine
end

