-- ==== Sys2Proof/Laws/Exchange.lean ====
section
/-!
SUPPORT. What the pieces of the exchange controller can do: the codec's answers, the choice between another attempt and
the classification, and each transition of 42_exchange.md R196 as a list of cases.
-/
namespace Sys2Proof.Machine

open Sys2Proof

/-- A failed build names one of the three range checks (R161). -/
theorem buildRequest_error {a c : Int} {d : List Int} {r : Reason} (h : buildRequest a c d = .error r) :
    r = .addrRange ∨ r = .cmdRange ∨ r = .dataRange := by
  unfold buildRequest checkRanges at h
  cases ha : inByte a <;> cases hc : inByte c <;> cases hd : d.all inByte <;> simp [ha, hc, hd] at h <;> simp [← h]

/-- A build that succeeds passed the range checks and gives the frame (R160). -/
theorem buildRequest_ok {a c : Int} {d : List Int} {f : Bytes} (h : buildRequest a c d = .ok f) :
    (inByte a = true ∧ inByte c = true ∧ d.all inByte = true) ∧ f = frame (toByte a) (toByte c) (d.map toByte) := by
  unfold buildRequest at h
  split at h
  · cases h
  · rename_i hr
    exact ⟨(checkRanges_eq_none a c d).1 hr, by injection h with h; exact h.symm⟩

/-- A string of at least four bytes is never a SHORT_FRAME (R174). -/
theorem parseFrame_long {f : Bytes} {e : Option Int} {r : ParseReason} (hl : Config.minFrame ≤ f.length)
    (h : parseFrame f e = .error r) : r ≠ .shortFrame := by
  unfold parseFrame at h
  rw [if_neg (by omega)] at h
  split at h
  · injection h with h
    simp [← h]
  · split at h
    · cases h
    · injection h with h
      simp [← h]

/-- After an attempt that did not succeed: another one while attempts remain, else the classification (R194, R196). -/
theorem nextAttempt_cases (s : State) :
    (s.att ≤ s.retries ∧ s.nextAttempt = { s with fsm := .discard }) ∨
    (s.retries < s.att ∧ s.nextAttempt = { s with fsm := .classify }) := by
  unfold State.nextAttempt
  by_cases h : s.att < s.retries + 1
  · exact Or.inl ⟨by omega, by simp [h]⟩
  · exact Or.inr ⟨by omega, by simp [h]⟩

/-- BUILD: an INVALID_ARGUMENT, or the request frame and the first attempt. -/
theorem fsmBuild_cases (s : State) :
    (∃ r, buildRequest (byteInt s.addr) s.opCmd s.opData = .error r ∧ fsmBuild s = s.fail { reason := r }) ∨
    (∃ f, buildRequest (byteInt s.addr) s.opCmd s.opData = .ok f ∧
      fsmBuild s = { (s.useCrc (requestBody (byteInt s.addr) s.opCmd s.opData)).initAttempts with req := f, fsm := .discard }) := by
  unfold fsmBuild
  cases h : buildRequest (byteInt s.addr) s.opCmd s.opData with
  | error r => exact Or.inl ⟨r, rfl, rfl⟩
  | ok f => exact Or.inr ⟨f, rfl, rfl⟩

/-- DISCARD. -/
theorem fsmDiscard_cases (s : State) :
    (s.nextDraw.fails = true ∧ fsmDiscard s = (s.callTransport .discard).abort .ioDiscard []) ∨
    (s.nextDraw.fails = false ∧ fsmDiscard s = { s.callTransport .discard with pending := [], fsm := .write }) := by
  unfold fsmDiscard
  rcases transportDiscard_cases s with ⟨hd, h⟩ | ⟨hd, h⟩
  · exact Or.inl ⟨hd, by simp [h]⟩
  · exact Or.inr ⟨hd, by simp [h]⟩

/-- WRITE. -/
theorem fsmWrite_cases (s : State) :
    (s.nextDraw.fails = true ∧ fsmWrite s = (s.callTransport (.write s.req)).abort .ioWrite []) ∨
    (s.nextDraw.fails = false ∧
      fsmWrite s = { s.callTransport (.write s.req) with tx := s.tx ++ s.req, rx := [], fsm := .readHead }) := by
  unfold fsmWrite
  rcases transportWrite_cases s.req s with ⟨hd, h⟩ | ⟨hd, h⟩
  · exact Or.inl ⟨hd, by simp [h]⟩
  · exact Or.inr ⟨hd, by simp [h]⟩

/-- READ_HEAD. -/
theorem fsmReadHead_cases (s : State) :
    (s.nextDraw.fails = true ∧ fsmReadHead s = (s.callTransport (.read s.minlen)).abort .ioRead []) ∨
    (s.nextDraw.fails = false ∧ ∃ k, k ≤ s.minlen ∧ k ≤ (s.pending ++ s.nextDraw.arrivals).length ∧
      fsmReadHead s = { s.callTransport (.read s.minlen) with
        pending := (s.pending ++ s.nextDraw.arrivals).drop k
        rx := (s.pending ++ s.nextDraw.arrivals).take k
        fsm := .pollAvail }) := by
  unfold fsmReadHead
  rcases transportRead_cases s.minlen s with ⟨hd, h⟩ | ⟨hd, k, hk, hl, h⟩
  · exact Or.inl ⟨hd, by simp [h]⟩
  · exact Or.inr ⟨hd, k, hk, hl, by simp [h]⟩

/-- POLL_AVAIL. -/
theorem fsmPollAvail_cases (s : State) :
    (s.nextDraw.fails = true ∧ fsmPollAvail s = (s.callTransport .avail).abort .ioAvail s.rx) ∨
    (s.nextDraw.fails = false ∧ 0 < s.nextDraw.count ∧
      fsmPollAvail s = { s.callTransport .avail with availN := s.nextDraw.count, fsm := .readTail }) ∨
    (s.nextDraw.fails = false ∧ s.nextDraw.count = 0 ∧
      fsmPollAvail s = ({ s.callTransport .avail with availN := 0 }).endReceive) := by
  unfold fsmPollAvail
  rcases transportAvail_cases s with ⟨hd, h⟩ | ⟨hd, h⟩
  · exact Or.inl ⟨hd, by simp [h]⟩
  · by_cases hc : 0 < s.nextDraw.count
    · exact Or.inr (Or.inl ⟨hd, hc, by simp [h, hc]⟩)
    · have h0 : s.nextDraw.count = 0 := by omega
      exact Or.inr (Or.inr ⟨hd, h0, by simp [h, h0]⟩)

/-- READ_TAIL. -/
theorem fsmReadTail_cases (s : State) :
    (s.nextDraw.fails = true ∧ fsmReadTail s = (s.callTransport (.read s.availN)).abort .ioRead s.rx) ∨
    (s.nextDraw.fails = false ∧ ∃ k, k ≤ s.availN ∧ k ≤ (s.pending ++ s.nextDraw.arrivals).length ∧
      fsmReadTail s = ({ s.callTransport (.read s.availN) with
        pending := (s.pending ++ s.nextDraw.arrivals).drop k
        rx := s.rx ++ (s.pending ++ s.nextDraw.arrivals).take k }).endReceive) := by
  unfold fsmReadTail
  rcases transportRead_cases s.availN s with ⟨hd, h⟩ | ⟨hd, k, hk, hl, h⟩
  · exact Or.inl ⟨hd, by simp [h]⟩
  · exact Or.inr ⟨hd, k, hk, hl, by simp [h]⟩

/-- PARSE. -/
theorem fsmParse_cases (s : State) :
    (∃ a rc p, parseFrame s.rx (some (byteInt s.addr)) = .ok (a, rc, p) ∧
      fsmParse s = (s.useCrcToParse s.rx).succeed (.response rc p)) ∨
    (∃ r, parseFrame s.rx (some (byteInt s.addr)) = .error r ∧
      fsmParse s = ((s.useCrcToParse s.rx).noteParseError r).nextAttempt) := by
  unfold fsmParse
  cases h : parseFrame s.rx (some (byteInt s.addr)) with
  | ok x => exact Or.inl ⟨x.1, x.2.1, x.2.2, rfl, rfl⟩
  | error r => exact Or.inr ⟨r, rfl, rfl⟩

/-- CLASSIFY: one error, and only OUT and STATE are written (R205 to R209). -/
theorem fsmClassify_cases (s : State) :
    ∃ info, fsmClassify s = s.fail info ∧
      (info.reason = .silent ∨ info.reason = .finalParse ∨ info.reason = .retainedParse ∨
        (info.reason = .fallback ∧ s.allShort = false ∧ s.lastErr = none)) := by
  unfold fsmClassify
  split
  · exact ⟨_, rfl, Or.inl rfl⟩
  · rename_i ha
    split
    · exact ⟨_, rfl, Or.inr (Or.inl rfl)⟩
    · split
      · exact ⟨_, rfl, Or.inr (Or.inr (Or.inl rfl))⟩
      · rename_i he
        exact ⟨_, rfl, Or.inr (Or.inr (Or.inr ⟨rfl, by simpa using ha, by simpa using he⟩))⟩

/-- The next answer is answer 0. -/
theorem answer_zero (s : State) : s.answer 0 = s.nextDraw := by
  unfold State.answer State.nextDraw
  cases s.inputs <;> simp

/-- A call of a primitive uses up one answer. -/
theorem callTransport_answer (s : State) (c : TransportCall) (k : Nat) :
    (s.callTransport c).answer k = s.answer (k + 1) := by
  unfold State.answer State.callTransport
  cases s.inputs with
  | nil => simp [Nat.add_comm, Nat.add_left_comm]
  | cons d rest => simp

/-- An exchange that is not running does not move. -/
theorem runFsm_of_idle {s : State} (h : s.fsm = .idle) (n : Nat) : runFsm n s = s := by
  cases n with
  | zero => rfl
  | succ k => simp [runFsm, h]

/-- One transition of a running exchange. -/
theorem runFsm_of_running {s : State} (h : s.fsm ≠ .idle) (n : Nat) : runFsm (n + 1) s = runFsm n (fsmStep s) := by
  simp [runFsm, h]

/-- What every transition of a running exchange keeps, a run of the exchange keeps. -/
theorem runFsm_keeps {P : State → Prop} (hstep : ∀ s, s.fsm ≠ .idle → P s → P (fsmStep s)) (n : Nat) (s : State)
    (h : P s) : P (runFsm n s) := by
  induction n generalizing s with
  | zero => exact h
  | succ k ih =>
    by_cases hf : s.fsm = .idle
    · rw [runFsm_of_idle hf]
      exact h
    · rw [runFsm_of_running hf]
      exact ih _ (hstep s hf h)

end Sys2Proof.Machine
end

