-- ==== Sys2Proof/Laws/PerInstr.lean ====
section
/-!
SUPPORT. Facts about every operation as syntax, one lemma per constructor. Family `OneFormat`: an operation has bytes in
exactly one of the two formats of the opcode table (30_encoding.md R110, R120), and a host-profile operation has a request
frame, to whatever device, exactly when its operands fit one.
-/

/-- Exactly one format, and a frame exactly when the operands fit it. -/
def Sys2Proof.Laws.OneFormat.Statement (i : Sys2Proof.Instr) : Prop :=
  (Sys2Proof.encodeTransaction i).isSome = !(Sys2Proof.requestShape i).isSome ∧
  ∀ a : Sys2Proof.Byte, (Sys2Proof.encodeWire a i).isSome = i.fitsFrame

namespace Sys2Proof.Laws.OneFormat

open Sys2Proof

/-- The block's own operations have no request shape. -/
theorem of_block {i : Instr} (h : (encodeTransaction i).isSome = true) (hs : requestShape i = none) (hf : i.fitsFrame = false) :
    Statement i := by
  refine ⟨by simp [h, hs], fun a => ?_⟩
  simp [encodeWire, hf]

/-- A host-profile operation with a request shape. -/
theorem of_host {i : Instr} {c : Int} {d : List Int} (h : encodeTransaction i = none) (hs : requestShape i = some (c, d)) :
    Statement i := by
  refine ⟨by simp [h, hs], fun a => ?_⟩
  cases hf : i.fitsFrame <;> simp [encodeWire, hf, hs]

theorem configure (kind : KindArg) (address : HostValue) (timeout : Rat) (retries : HostValue) (params : OpenParams) :
    Statement (.configure kind address timeout retries params) := of_block rfl rfl rfl
theorem checksum (s : Bytes) : Statement (.checksum s) := of_block rfl rfl rfl
theorem build (address command : Int) (data : List Int) : Statement (.build address command data) := of_block rfl rfl rfl
theorem parse (f : Bytes) (expect : Option Int) : Statement (.parse f expect) := of_block rfl rfl rfl
theorem exchange (command : Int) (data : List Int) (minlen : Nat) : Statement (.exchange command data minlen) :=
  of_block rfl rfl rfl
theorem close : Statement .close := of_block rfl rfl rfl
theorem reservedOp (code : Byte) : Statement (.reservedOp code) := of_block rfl rfl rfl
theorem testLink : Statement .testLink := of_host rfl rfl
theorem openSession (lvl : Int) (pw : List Int) : Statement (.openSession lvl pw) := of_host rfl rfl
theorem readEnergy (group index : Int) : Statement (.readEnergy group index) := of_host rfl rfl
theorem readInfo : Statement .readInfo := of_host rfl rfl
theorem readRatios : Statement .readRatios := of_host rfl rfl
theorem readVersion : Statement .readVersion := of_host rfl rfl
theorem readNetaddr : Statement .readNetaddr := of_host rfl rfl
theorem unlockArchive : Statement .unlockArchive := of_host rfl rfl

end Sys2Proof.Laws.OneFormat
end

