-- ==== Sys2Proof/Tests/Slice0.lean ====
section
/-!
SUPPORT. Tests of the model against the vectors of 95_test_vectors.md (named in each comment), a smoke test of the
well-formedness checks, words written out from the spec's encodings, and witnesses: for each statement with hypotheses a
concrete state and operands that meet them.
-/
namespace Sys2Proof.Tests

set_option Elab.async false

open Sys2Proof Sys2Proof.Machine

/-! ### Small states and answers -/

/-- An answer without arrivals or failure. -/
def quiet : Draw := ⟨[], false, 0⟩

/-- An I/O error. -/
def broken : Draw := ⟨[], true, 0⟩

/-- An answer that lets `f` arrive and be read whole. -/
def gives (f : Bytes) : Draw := ⟨f, false, f.length⟩

/-- A poll that answers `n`. -/
def polls (n : Nat) : Draw := ⟨[], false, n⟩

/-- LC = OPEN, ADDR = 1, with a retry count and scripted answers. -/
def opened (r : Nat) (ds : List Draw) : State := { State.reset with lc := .opened, addr := 1, retries := r, inputs := ds }

/-- The same with STATE in the middle of an EXCHANGE. -/
def running (f : FsmState) (ds : List Draw) : State := { opened 1 ds with fsm := f }

/-- A field of the next state. -/
def after {α : Type} (o : Host.Outcome State Fault Refusal) (field : State → α) : Option α :=
  match o with
  | .next t => some (field t)
  | .fault _ => none
  | .refused _ => none

/-- The frame `01 00 00 20` (T-RSP-1). -/
def linkFrame : Bytes := [0x01, 0x00, 0x00, 0x20]

/-- The answers of an attempt whose head read gets `f` and nothing else. -/
def attempt (f : Bytes) : List Draw := [quiet, quiet, gives f, quiet]

/-! ### Well-formedness -/

theorem test_wellFormed_refuses_assigned_code : (Instr.reservedOp 0x03).wellFormed = false := by decide

/-! ### Decoding, from words written out -/

theorem test_decode_configure :  -- serial (0), number 1 = 2/1 folded, 1 s, 2 retries, port "P", 9600 baud
    decodeTransaction [0x01, 0x00, 0x00, 0x02, 0x00, 0x02, 0x00, 0x00, 0x04, 0x00, 0x00, 0x01, 0x50, 0x80, 0x96, 0x01] =
      .ok (.configure .serial (.num 1) 1 (.num 2) (.serialPort [0x50] 9600)) := by decide +kernel
theorem test_decode_checksum : decodeTransaction [0x02, 0x02, 0x01, 0x00] = .ok (.checksum [0x01, 0x00]) := by decide +kernel
theorem test_decode_build : decodeTransaction [0x03, 0x01, 0x10, 0x01, 0x80, 0x04] = .ok (.build (-1) 8 [256]) := by decide +kernel
theorem test_decode_parse :
    decodeTransaction [0x04, 0x04, 0x01, 0x00, 0x00, 0x20, 0x01, 0x02] = .ok (.parse linkFrame (some 1)) := by decide +kernel
theorem test_decode_exchange : decodeTransaction [0x05, 0x10, 0x01, 0x0A, 0x05] = .ok (.exchange 8 [5] 5) := by decide +kernel
theorem test_decode_close : decodeTransaction [0x06] = .ok .close := by decide +kernel
theorem test_decode_reserved : decodeTransaction [0x07, 0x55] = .ok (.reservedOp 0x07) := by decide +kernel
theorem test_decode_truncated : decodeTransaction [0x02, 0x02, 0x01] = .error .truncated := by decide +kernel
theorem test_decode_trailing : decodeTransaction [0x06, 0x00] = .error .trailing := by decide +kernel
-- T-BLD-1, 5, 7 to 12
theorem test_decode_testLink : decodeWire linkFrame = .ok .testLink := by decide +kernel
theorem test_decode_openSession : decodeWire [0x01, 0x01, 0x02, 0x02, 0x02, 0x02, 0x02, 0x02, 0x02, 0xBD, 0x97] =
    .ok (.openSession 2 [2, 2, 2, 2, 2, 2]) := by decide +kernel
theorem test_decode_readNetaddr : decodeWire [0x01, 0x08, 0x05, 0xE7, 0xC3] = .ok .readNetaddr := by decide +kernel
theorem test_decode_readInfo : decodeWire [0x01, 0x08, 0x00, 0x27, 0xC0] = .ok .readInfo := by decide +kernel
theorem test_decode_readVersion : decodeWire [0x01, 0x08, 0x03, 0x67, 0xC1] = .ok .readVersion := by decide +kernel
theorem test_decode_readRatios : decodeWire [0x01, 0x08, 0x02, 0xA6, 0x01] = .ok .readRatios := by decide +kernel
theorem test_decode_unlockArchive : decodeWire [0x01, 0x08, 0x12, 0xA7, 0xCD] = .ok .unlockArchive := by decide +kernel
theorem test_decode_readEnergy : decodeWire [0x01, 0x05, 0x31, 0x05, 0xC4, 0x4A] = .ok (.readEnergy 0x31 5) := by decide +kernel
theorem test_decode_bad_frame : decodeWire [0x01, 0x00, 0x00, 0x21] = .error (.badFrame .badCrc) := by decide +kernel
theorem test_decode_table_configure : decodeTableWord 8 0x01 =
    some (.configure .serial (.num 0) 0 (.num 0) (.serialPort [] 0)) := by decide +kernel
theorem test_decode_table_frame : decodeTableWord 32 0x20000001 = some .testLink := by decide +kernel

/-! ### One step per operation -/

theorem test_configure :  -- T-CFG-2
    after (exec (.configure .tcp (.text [0x30, 0x30, 0x37]) (mkRat 1 2) (.num 0) (.tcpEndpoint [0x48] 4001))
      { State.reset with inputs := [quiet] }) (fun t => (t.lc, t.addr, t.retries, t.kind, t.out)) =
      some (.opened, 7, 0, .tcp, .ok .unit) := by decide +kernel
theorem test_configure_crossed_params :  -- R242: the parameters are not validated; here the open fails (R243)
    after (exec (.configure .tcp (.num 1) 1 (.num 0) (.serialPort [] 0)) { State.reset with inputs := [broken] })
      (fun t => (t.lc, t.out, t.calls)) =
      some (.unconfigured, .err { reason := .ioOpen }, [.connect .tcp (.serialPort [] 0)]) := by decide +kernel
theorem test_checksum :  -- T-CRC-7
    after (exec (.checksum [0x31, 0x32, 0x33, 0x34, 0x35, 0x36, 0x37, 0x38, 0x39]) State.reset) State.out =
      some (.ok (.checksum 0x4B37)) := by decide +kernel
theorem test_build :  -- T-BLD-7
    after (exec (.build 1 8 [5]) State.reset) State.out = some (.ok (.frame [0x01, 0x08, 0x05, 0xE7, 0xC3])) := by decide +kernel
theorem test_build_order :  -- T-BLD-27
    after (exec (.build 1 300 [999]) State.reset) State.out = some (.err { reason := .cmdRange }) := by decide +kernel
theorem test_parse :  -- T-PRS-11
    after (exec (.parse [0x01, 0x00, 0x00, 0x20, 0x12, 0x80, 0x0D] (some 1)) State.reset) State.out =
      some (.ok (.parsed 1 0 [0x00, 0x20, 0x12])) := by decide +kernel
theorem test_parse_mismatch :  -- T-PRS-13
    after (exec (.parse linkFrame (some 300)) State.reset) State.out =
      some (.err { reason := .addrMismatch, raw := some linkFrame }) := by decide +kernel
theorem test_exchange_retained :  -- T-EXC-7
    after (exec (.exchange 8 [5] 5) (opened 1 (attempt [0x01, 0x00, 0x05, 0xE0, 0x04] ++ attempt [])))
      (fun t => (t.out, t.tx.length)) =
      some (.err { reason := .retainedParse, address := some 1, command := some 8, attempts := some 2, raw := some [],
                   cause := some .badCrc }, 10) := by decide +kernel
theorem test_exchange_tail_error :  -- T-EXC-21
    after (exec (.exchange 0 [] 4) (opened 1 [quiet, quiet, gives [0x01, 0x00], polls 2, broken]))
      (fun t => (t.out, t.att)) =
      some (.err { reason := .ioRead, address := some 1, command := some 0, attempts := some 1,
                   raw := some [0x01, 0x00] }, 0) := by decide +kernel
theorem test_close :  -- T-CLS-1
    after (exec .close (opened 0 [])) (fun t => (t.lc, t.calls, t.out)) = some (.closed, [.release], .ok .unit) := by decide +kernel
theorem test_reservedOp :  -- T-OP-1
    after (exec (.reservedOp 0xFF) State.reset) (fun t => (t.out, t.refusedMark)) = some (.refused .illegalOp, true) := by decide +kernel
theorem test_testLink :  -- T-HOST-1
    after (exec .testLink (opened 0 [quiet, quiet, quiet, polls 4, gives linkFrame])) (fun t => (t.hostOut, t.tx)) =
      some (.ok .unit, linkFrame) := by decide +kernel
theorem test_openSession :  -- T-HOST-15
    after (exec (.openSession 1 [1, 1, 1, 1, 1]) (opened 0 [])) (fun t => (t.hostOut, t.calls)) =
      some (.stopped (.err { reason := .passwordLen }), []) := by decide +kernel
theorem test_readNetaddr :  -- T-HOST-2
    after (exec .readNetaddr (opened 0 [quiet, quiet, quiet, polls 5, gives [0x01, 0x00, 0x05, 0xE0, 0x03]])) State.hostOut =
      some (.ok (.netaddr 5)) := by decide +kernel
theorem test_readInfo :  -- T-RSP-2 as an info block
    after (exec .readInfo (opened 0 [quiet, quiet, quiet, polls 5, gives [0x01, 0x00, 0x05, 0xE0, 0x03]])) State.hostOut =
      some (.ok (.infoBlock 0 [5])) := by decide +kernel
theorem test_readVersion :  -- T-HOST-5
    after (exec .readVersion (opened 0 [quiet, quiet, quiet, polls 6, gives [0x01, 0x07, 0x01, 0x02, 0x30, 0x48]]))
      State.hostOut = some (.ok (.version (some ⟨7, 1, 2⟩))) := by decide +kernel
theorem test_readRatios :  -- T-HOST-7
    after (exec .readRatios (opened 0 [quiet, quiet, quiet, polls 7, gives [0x01, 0x00, 0x2C, 0x01, 0x05, 0x19, 0x9A]]))
      State.hostOut = some (.ok (.ratios ⟨some 300, some 5, [0x2C, 0x01, 0x05]⟩)) := by decide +kernel
theorem test_readEnergy :  -- T-HOST-13
    after (exec (.readEnergy 0 0) (opened 0 [quiet, quiet, quiet, polls 16,
      gives [0x01, 0, 0, 0x10, 0x27, 0, 0, 0, 0, 0, 0, 0x20, 0x03, 0, 0x4E, 0x8A]])) State.hostOut =
      some (.ok (.energy ⟨10000, 800, [0, 0x10, 0x27, 0, 0, 0, 0, 0, 0, 0x20, 0x03, 0]⟩)) := by decide +kernel
theorem test_unlockArchive :  -- T-BLD-11
    after (exec .unlockArchive (opened 0 [quiet, quiet, quiet, polls 4, gives linkFrame])) (fun t => (t.hostOut, t.tx)) =
      some (.ok .unit, [0x01, 0x08, 0x12, 0xA7, 0xCD]) := by decide +kernel
theorem test_month_check :  -- T-HOST-17
    after (step { opened 0 [] with requests := [.sequence (.readEnergyMonth 13)] }) (fun t => (t.hostOut, t.calls)) =
      some (.stopped (.err { reason := .monthRange }), []) := by decide +kernel
theorem test_decodeEnergy :  -- L1-7, T-HOST-12
    decodeEnergy 5 [0xAA, 0x11, 0x22, 0xBB] = .ok 0x052211 ∧ decodeEnergy 0 [0, 0, 0x10, 0xFF] = .ok 0x1000 ∧
    decodeEnergy 0 [0, 0, 0x12, 0x34] = .ok 0x3412 := by decide +kernel
theorem test_serial :  -- T-HOST-10
    serialText 0x0A [0x64, 0x00, 0x01] = some [0x31, 0x30, 0x31, 0x30, 0x30, 0x30, 0x30, 0x30, 0x31] := by decide +kernel
theorem test_passport :  -- the responses of T-RSP-1 and after it, one per exchange
    after (step { opened 0 ([linkFrame, linkFrame, [0x01, 0x00, 0x05, 0xE0, 0x03], [0x01, 0x00, 0x05, 0xE0, 0x03],
      [0x01, 0x07, 0x01, 0x02, 0x30, 0x48], [0x01, 0x00, 0x2C, 0x01, 0x05, 0x19, 0x9A]].map fun f =>
        [quiet, quiet, gives f, quiet]).flatten with
      requests := [.sequence .readPassport], hostMin := ⟨7, 7, 7, 7, 7, 7, 7, 7⟩ }) State.hostOut =
      some (.ok (.passport ⟨[0, 5], none, none, some ⟨7, 1, 2⟩, some 300, some 5,
        [⟨.info, 0, [5]⟩, ⟨.ratios, 0, [0x2C, 0x01, 0x05]⟩], none⟩)) := by decide +kernel
theorem test_buildDate :  -- L1-8, T-HOST-11
    buildDate [9, 31, 2, 24] = none ∧ buildDate [29, 2, 24] = some ⟨2024, 2, 29⟩ ∧ buildDate [29, 2, 23] = none :=
  by decide +kernel
theorem test_malformed_is_refused :  -- R10, R325; the reason is log 24's
    after (step { State.reset with requests := [.transaction [0x02]] }) (fun t => (t.out, t.refusedMark, t.requests)) =
      some (.refused .illegalOp, true, []) := by decide +kernel
theorem test_step_runs_first_after_reset :
    after (step (State.reset.withFetchWord 8 0x05)) (fun t => (t.out, t.requests)) = some (.refused .notOpen, []) := by decide +kernel

/-! ### Witnesses: states and operands that meet the hypotheses of the statements, clause by clause -/

/-- The 16-byte energy reply of T-HOST-13. -/
def energyFrame : Bytes := [0x01, 0, 0, 0x10, 0x27, 0, 0, 0, 0, 0, 0, 0x20, 0x03, 0, 0x4E, 0x8A]

/-- Answers that deliver `f` to a head read long enough, to one attempt after another. -/
def answers (n : Nat) (f : Bytes) : List Draw := (List.replicate n (answersWith f)).flatten

/-- LC = OPEN, every MINLEN_* 16, and every attempt answered with the energy reply. -/
def served (n : Nat) : State :=
  { opened 0 (answers n energyFrame) with hostMin := ⟨16, 16, 16, 16, 16, 16, 16, 16⟩ }

/-- The host operation succeeded. -/
def succeeded (o : HostOutcome) : Bool :=
  match o with
  | .ok _ => true
  | .stopped _ => false

/-- Attempts of T-EXC-24: a frame with a bad CRC, one from device 2 split between head and tail read, a good one. -/
def badHead : Attempt := ⟨quiet, quiet, gives [0x01, 0x00, 0x05, 0xE0], quiet, quiet⟩
def badTail : Attempt := ⟨quiet, quiet, ⟨[0x02, 0x00, 0x05, 0x10, 0x03], false, 4⟩, polls 1, polls 1⟩
def goodHead : Attempt := ⟨quiet, quiet, gives linkFrame, quiet, quiet⟩
def goodSplit : Attempt := ⟨quiet, quiet, gives linkFrame, polls 2, polls 2⟩

/-- An attempt that receives two bytes and then one more, and an attempt that receives nothing. -/
def shortBoth : Attempt := ⟨quiet, quiet, gives [0x01, 0x00], polls 1, gives [0x05]⟩
def nothing : Attempt := ⟨quiet, quiet, quiet, quiet, quiet⟩

/-- The environment's next answer fails. -/
def failing (f : FsmState) : State := running f [broken]

theorem witness_TransactionDecodesItsEncoding :
    (Instr.exchange (-300) [0, 255, 256] 0).wellFormed = true ∧
    encodeTransaction (.exchange (-300) [0, 255, 256] 0) =
      some [0x05, 0xD7, 0x04, 0x03, 0x00, 0xFE, 0x03, 0x80, 0x04, 0x00] := by decide +kernel
theorem witness_WireRequestDecodesItsFrame :
    encodeWire 1 (.readEnergy 0x31 5) = some [0x01, 0x05, 0x31, 0x05, 0xC4, 0x4A] := by decide +kernel
theorem witness_DecodedFrameIsTheRequestFrame :
    decodeWire [0x01, 0x05, 0x31, 0x05, 0xC4, 0x4A] = .ok (.readEnergy 0x31 5) := by decide +kernel
theorem witness_StepRunsTheDecodedOperation :
    ∃ s : State, s.fsm = .idle ∧ s.requests = [.transaction [0x06]] ∧ decode (.transaction [0x06]) = .ok .close :=
  ⟨{ State.reset with requests := [.transaction [0x06]] }, rfl, rfl, rfl⟩
theorem witness_StepRunsTheDecodedOperation_others :  -- a sequence, no request, a running EXCHANGE
    { State.reset with requests := [.sequence .readPassport] }.requests = [.sequence .readPassport] ∧
    (State.reset.fsm = .idle ∧ State.reset.requests = []) ∧ (running .build []).fsm ≠ .idle := by decide
theorem witness_UnassignedCodeIsRefused :
    ((0 : Byte).toNat = 0 ∧ 7 ≤ (7 : Byte).toNat ∧ 7 ≤ (0xFF : Byte).toNat) ∧
    decodeTransaction (0xFF :: [0x01]) = .ok (.reservedOp 0xFF) ∧ decodeTransaction (0x00 :: []) = .ok (.reservedOp 0) := by
  decide +kernel
theorem witness_EveryStepAnswersANextState :  -- bytes, a frame and a code without a meaning
    (State.reset.fsm = .idle ∧ ∀ q, Request.transaction [] ≠ .sequence q) ∧
    decode (.transaction []) = .error .truncated ∧ decode (.wire [0x01, 0x00, 0x00, 0x21]) = .error (.badFrame .badCrc) ∧
    decode (.call (.reservedOp 0x01)) = .error .illFormed :=
  ⟨⟨rfl, by intro q h; cases h⟩, by decide +kernel, by decide +kernel, by decide +kernel⟩
theorem witness_SingleBitFlipIsRejected :  -- the last bit of the last byte of the shortest body
    State.reset.fsm = .idle ∧ 2 ≤ ([0x01, 0x00] : Bytes).length ∧ 1 < ([0x01, 0x00] : Bytes).length ∧ 7 < 8 := by decide
theorem witness_ChecksumAnswersTheCrc : State.reset.fsm = .idle := rfl
theorem witness_BuildAnswersTheFrame :
    (0 : Int) ≤ 0 ∧ (0 : Int) ≤ 255 ∧ (0 : Int) ≤ 255 ∧ (255 : Int) ≤ 255 ∧ (∀ e ∈ ([0, 255] : List Int), 0 ≤ e ∧ e ≤ 255) ∧
    ([0x00, 0xFF, 0x00, 0xFF] : Bytes) =
      BitVec.ofInt 8 0 :: BitVec.ofInt 8 255 :: ([0, 255] : List Int).map (BitVec.ofInt 8) := by decide
theorem witness_BuildChecksItsRangesInOrder :  -- one beyond each end
    (¬((0 : Int) ≤ -1 ∧ (-1 : Int) ≤ 255) ∧ ¬((0 : Int) ≤ 256 ∧ (256 : Int) ≤ 255)) ∧
    ((0 : Int) ≤ 255 ∧ (255 : Int) ≤ 255 ∧ ¬((0 : Int) ≤ 256 ∧ (256 : Int) ≤ 255)) ∧
    ∃ e ∈ ([0, -1] : List Int), ¬(0 ≤ e ∧ e ≤ 255) := by decide
theorem witness_ParseInvertsBuild :
    State.reset.fsm = .idle ∧ (some (1 : Int) = none ∨ some (1 : Int) = some (((1 : Byte).toNat : Nat) : Int)) := by decide
theorem witness_ParseMakesItsThreeChecks_short : ([0x01, 0x00, 0x00] : Bytes).length < 4 := by decide
theorem witness_ParseMakesItsThreeChecks_crc :
    4 ≤ linkFrame.length ∧ (0x00 : Byte).toNat + 256 * (0x21 : Byte).toNat ≠ (crc16 [0x01, 0x00]).toNat := by decide +kernel
theorem witness_ParseMakesItsThreeChecks_address :
    (linkFrame.getD 2 0).toNat + 256 * (linkFrame.getD 3 0).toNat = (crc16 (linkFrame.take 2)).toNat ∧
    (∃ z, (some 256 : Option Int) = some z ∧ z ≠ ((linkFrame.getD 0 0).toNat : Int)) :=
  ⟨by decide +kernel, 256, rfl, by decide⟩
theorem witness_ParseMakesItsThreeChecks_good :
    (linkFrame.getD 2 0).toNat + 256 * (linkFrame.getD 3 0).toNat = (crc16 (linkFrame.take 2)).toNat ∧
    ((some 1 : Option Int) = none ∨ (some 1 : Option Int) = some ((linkFrame.getD 0 0).toNat : Int)) := by decide +kernel
theorem witness_PureOperationsLeaveTheRest :
    ∃ t u v, exec (.checksum [0x01]) State.reset = .next t ∧ exec (.build 1 0 []) State.reset = .next u ∧
      exec (.parse linkFrame none) (running .parse []) = .next v := ⟨_, _, _, rfl, rfl, rfl⟩
theorem witness_AddressOperandIsDecoded :
    (mkRat 3 2).den ≠ 1 ∧
    (([0x32, 0x35, 0x36] : Text) ≠ [] ∧ ∀ b ∈ ([0x32, 0x35, 0x36] : Text), 0x30 ≤ b.toNat ∧ b.toNat ≤ 0x39) ∧
    ∃ b ∈ ([0x2F] : Text), ¬(0x30 ≤ b.toNat ∧ b.toNat ≤ 0x39) := by decide +kernel
theorem witness_ConfigureOpensTheTransport :  -- an open that succeeds, and one that fails
    (∃ s : State, s.fsm = .idle ∧ s.lc = .unconfigured ∧ decodeAddress (.num 255) = .ok 255 ∧ (0 : Rat) ≤ 0 ∧
      s.nextDraw.fails = false) ∧
    (∃ s : State, s.fsm = .idle ∧ s.lc = .unconfigured ∧ decodeAddress (.num 0) = .ok 0 ∧ (0 : Rat) ≤ 1 ∧
      s.nextDraw.fails = true) :=
  ⟨⟨{ State.reset with inputs := [quiet] }, by decide +kernel⟩, ⟨{ State.reset with inputs := [broken] }, by decide +kernel⟩⟩
theorem witness_ConfigureChecksItsOperandsInOrder :
    decodeAddress (.num 256) = .error .addrRange ∧ (([0x75, 0x64, 0x70] : Text) ≠ kindSerialText ∧ ([0x75, 0x64, 0x70] : Text) ≠ kindTcpText ∧
      decodeAddress (.num 0) = .ok 0 ∧ decodeKind (.named kindTcpText) = .ok .tcp) ∧
    (∀ n : Nat, HostValue.other ≠ .num n) ∧ (-1 : Rat) < 0 :=
  ⟨by decide +kernel, by decide +kernel, (by intro n h; cases h), by decide +kernel⟩
theorem witness_CloseReleasesOnce :
    ((opened 0 []).fsm = .idle ∧ (opened 0 []).lc = .opened) ∧ (State.reset.fsm = .idle ∧ State.reset.lc ≠ .opened) := by
  decide
theorem witness_ConfigureChecksItsOperandsInOrder_lifecycle :
    (opened 0 []).lc ≠ .unconfigured ∧ { opened 0 [] with lc := .closed }.lc ≠ .unconfigured := by decide
theorem witness_ExchangeNeedsAnOpenTransport :
    State.reset.lc ≠ .opened ∧ { opened 0 [] with lc := .closed }.lc ≠ .opened := by decide
theorem witness_RunningExchangeRefusesRequests :
    isBlockOperation .close = true ∧ isBlockOperation (.checksum []) = true ∧ (running .classify []).fsm ≠ .idle ∧
    isHostOperation (.openSession 256 [1, 1, 1, 1, 1, 1]) = true ∧ isHostOperation .readInfo = true ∧
    ([1, 1, 1, 1, 1, 1] : List Int).length = 6 := by decide
theorem witness_PrimitivesMoveBytesAndRegisters :  -- the poll at 0 and above 0
    [FsmState.discard, .write, .readHead, .pollAvail, .readTail].all
      (fun f => !(running f [quiet]).nextDraw.fails && decide ((running f [quiet]).fsm = f)) = true ∧
    (running .pollAvail [quiet]).nextDraw.count = 0 ∧ 0 < (running .pollAvail [polls 1]).nextDraw.count := by decide
theorem witness_IoErrorEndsTheExchange :
    [FsmState.discard, .write, .readHead, .pollAvail, .readTail].all
      (fun f => (failing f).nextDraw.fails && decide ((failing f).fsm = f)) = true := by decide
theorem witness_ShortAttemptIsRetried :
    ((running .checkLen []).rx.length < 4 ∧ (running .checkLen []).att < (running .checkLen []).retries + 1) ∧
    { running .checkLen [] with att := 2 }.att = (running .checkLen []).retries + 1 ∧
    4 ≤ { running .checkLen [] with rx := linkFrame }.rx.length := by decide
theorem witness_ParseEndsOrRetries :
    parseFrame linkFrame (some (((running .parse []).addr.toNat : Nat) : Int)) = .ok (1, 0, []) ∧
    parseFrame linkFrame (some 2) = .error .addrMismatch ∧
    (running .parse []).att < (running .parse []).retries + 1 ∧
    { running .parse [] with att := 2 }.att = (running .parse []).retries + 1 := by decide +kernel
theorem witness_ClassificationFollowsItsOrder :
    { running .classify [] with allShort := true }.allShort = true ∧
    ({ running .classify [] with lastPe := true }.allShort = false ∧ { running .classify [] with lastPe := true }.lastPe = true) ∧
    { running .classify [] with lastErr := some .badCrc }.lastErr ≠ none := by decide
theorem witness_ExchangeChecksItsOperandsFirst :
    (opened 0 []).lc = .opened ∧ ¬((0 : Int) ≤ 256 ∧ (256 : Int) ≤ 255) ∧
    ((0 : Int) ≤ 255 ∧ (255 : Int) ≤ 255) ∧ ∃ e ∈ ([256] : List Int), ¬(0 ≤ e ∧ e ≤ 255) := by decide
theorem witness_ExchangeAnswersAGoodReply :  -- T-EXC-24: two bad frames, the second with a tail read, then a good one
    [badHead, badTail].length ≤ (opened 2 []).retries ∧
    attempted (opened 2 (([badHead, badTail] ++ [goodHead]).flatMap Attempt.draws)) ([badHead, badTail] ++ [goodHead]) [] ∧
    (∀ x ∈ [badHead, badTail], attemptError (opened 2 []).addr (x.delivers 4) ≠ none) ∧
    parseFrame (goodHead.delivers 4) (some 1) = .ok (1, 0, []) := by
  unfold attempted noneFails
  decide +kernel
theorem witness_SilentTransportGivesNoResponse :  -- three bytes in head and tail read, then nothing
    [shortBoth].length = (opened 1 []).retries ∧
    attempted (opened 1 (([shortBoth] ++ [nothing]).flatMap Attempt.draws)) ([shortBoth] ++ [nothing]) [] ∧
    (∀ x ∈ [shortBoth] ++ [nothing], (x.delivers 2).length < 4) := by
  unfold attempted noneFails
  decide +kernel
theorem witness_CorruptedRepliesGiveFinalParse :  -- nothing, then a frame of another device
    attempted (opened 1 (([nothing] ++ [badTail]).flatMap Attempt.draws)) ([nothing] ++ [badTail]) [] ∧
    (∀ x ∈ [nothing], attemptError (opened 1 []).addr (x.delivers 4) ≠ none) ∧ 4 ≤ (badTail.delivers 4).length ∧
    parseFrame (badTail.delivers 4) (some 1) = .error .addrMismatch := by
  unfold attempted noneFails
  decide +kernel
theorem witness_EarlierParseFailureIsRetained :  -- T-EXC-7
    attempted (opened 1 (([badHead] ++ [nothing]).flatMap Attempt.draws)) ([badHead] ++ [nothing]) [] ∧
    (∀ x ∈ [badHead], attemptError (opened 1 []).addr (x.delivers 4) ≠ none) ∧ (nothing.delivers 4).length < 4 ∧
    retainedFailure (opened 1 []).addr ([badHead].map fun x => x.delivers 4) = some .badCrc := by
  unfold attempted noneFails
  decide +kernel
theorem witness_EveryExchangeEnds : State.reset.fsm = .idle ∧ (opened 0 []).fsm = .idle := by decide
theorem witness_ExchangeOutcomesAreTheListed : (opened 0 []).fsm = .idle ∧ (opened 0 []).lc = .opened := by decide
theorem witness_AttemptCountIsBounded :  -- a success, a failure of the classification, an I/O error
    after (exec (.exchange 0 [] 4) (opened 0 goodHead.draws)) (fun t => (t.out, t.att)) = some (.ok (.response 0 []), 1) ∧
    after (exec (.exchange 0 [] 4) (opened 1 (nothing.draws ++ nothing.draws))) (fun t => (t.out, t.att)) =
      some (.err { reason := .silent, address := some 1, command := some 0, attempts := some 2 }, 2) ∧
    after (exec (.exchange 0 [] 4) (opened 0 [broken])) (fun t => (ioOutcome t.out, t.att)) = some (true, 0) := by
  decide +kernel
theorem witness_EachAttemptMakesItsCalls :  -- attempts with and without a tail read; an I/O error at the second write
    ((0 : Int) ≤ 0 ∧ (0 : Int) ≤ 255 ∧ ∀ e ∈ ([] : List Int), 0 ≤ e ∧ e ≤ 255) ∧
    after (exec (.exchange 0 [] 4) (opened 1 (badTail.draws ++ goodHead.draws))) (fun t => (ioOutcome t.out, t.calls)) =
      some (false, [.discard, .write linkFrame, .read 4, .avail, .read 1, .discard, .write linkFrame, .read 4, .avail]) ∧
    after (exec (.exchange 0 [] 4) (opened 1 (nothing.draws ++ [quiet, broken]))) (fun t => (ioOutcome t.out, t.tx)) =
      some (true, linkFrame) := by decide +kernel
theorem witness_StepKeepsTheExchangeInvariant : ∃ t, step State.reset = .next t := ⟨_, rfl⟩
theorem witness_ConfigurationNeverChangesAgain : (opened 0 []).lc ≠ .unconfigured ∧ ∃ t, step (opened 0 []) = .next t :=
  ⟨by decide, _, rfl⟩
theorem witness_LifecycleMovesForward :
    State.reset.lc = .unconfigured ∧ (opened 0 []).lc = .opened ∧ { opened 0 [] with lc := .closed }.lc = .closed ∧
    ∃ t, step { opened 0 [] with lc := .closed, refusedMark := true } = .next t := ⟨rfl, rfl, rfl, _, rfl⟩
theorem witness_TransmitStreamOnlyGrows : ∃ t, step (running .write [quiet]) = .next t := ⟨_, rfl⟩
theorem witness_OperationsStartAndEndIdle :
    ∃ t, step { State.reset with requests := [.transaction [0x06]] } = .next t := ⟨_, rfl⟩
theorem witness_HostOperationsPassFailuresOn :
    isHostOperation (.openSession 256 [1, 1, 1, 1, 1, 1]) = true ∧ ([1, 1, 1, 1, 1, 1] : List Int).length = 6 ∧
    State.reset.lc ≠ .opened ∧ (opened 0 []).lc = .opened ∧ (Instr.openSession 256 [1, 1, 1, 1, 1, 1]).fitsFrame = false := by
  decide
theorem witness_ContentIgnoringOperationsSucceed :
    (Instr.openSession 255 [0, 1, 1, 1, 1, 255]).fitsFrame = true ∧
    minLenOf (.openSession 255 [0, 1, 1, 1, 1, 255]) (served 1).hostMin = 16 ∧
    repliesWith (opened 0 (attempt linkFrame ++ [quiet])) 4 linkFrame ∧
    parseFrame linkFrame (some (((opened 0 []).addr.toNat : Nat) : Int)) = .ok (1, 0, []) :=
  ⟨by decide, rfl, ⟨_, _, _, _, _, _, rfl, by unfold noneFails; decide, by decide⟩, by decide +kernel⟩
theorem witness_ContentIgnoringOperationsSucceed_prepare :  -- the second reply split between head and tail read
    attempted { opened 0 (goodHead.draws ++ goodSplit.draws) with hostMin := ⟨4, 4, 4, 4, 4, 4, 2, 4⟩ }
      [goodHead, goodSplit] [] ∧
    parseFrame (goodHead.delivers 4) (some 1) = .ok (1, 0, []) ∧
    parseFrame (goodSplit.delivers 2) (some 1) = .ok (1, 0, []) := by
  unfold attempted noneFails
  decide +kernel
theorem witness_ParameterReadsDecodeTheirReply :  -- payloads of three, two and no bytes
    parseFrame [0x01, 0x00, 0x2C, 0x01, 0x05, 0x19, 0x9A] (some 1) = .ok (1, 0, [0x2C, 0x01, 0x05]) ∧
    parseFrame [0x01, 0x07, 0x01, 0x02, 0x30, 0x48] (some 1) = .ok (1, 7, [1, 2]) ∧
    parseFrame linkFrame (some 1) = .ok (1, 0, []) ∧
    repliesWith (opened 0 [quiet, quiet, quiet, polls 6, gives [0x01, 0x07, 0x01, 0x02, 0x30, 0x48]]) 0
      [0x01, 0x07, 0x01, 0x02, 0x30, 0x48] :=
  ⟨by decide +kernel, by decide +kernel, by decide +kernel,
    ⟨_, _, _, _, _, _, rfl, by unfold noneFails; decide, by decide⟩⟩
theorem witness_ParameterReadsDecodeTheirReply_netaddr :  -- a payload of one byte, and none
    parseFrame [0x01, 0x00, 0x05, 0xE0, 0x03] (some 1) = .ok (1, 0, [5]) ∧ ([5] : Bytes) ≠ [] ∧
    parseFrame linkFrame (some 1) = .ok (1, 0, []) ∧
    repliesWith (opened 0 [quiet, quiet, quiet, polls 4, gives linkFrame]) (opened 0 []).hostMin.netaddr linkFrame :=
  ⟨by decide +kernel, by decide, by decide +kernel, ⟨_, _, _, _, _, _, rfl, by unfold noneFails; decide, by decide⟩⟩
theorem witness_ReadEnergyDecodesItsReply :  -- a payload of exactly twelve bytes
    repliesWith (opened 0 [quiet, quiet, quiet, polls 16, gives energyFrame]) (opened 0 []).hostMin.energy energyFrame ∧
    ∃ p, parseFrame energyFrame (some 1) = .ok (1, 0, p) ∧ p.length = 12 :=
  ⟨⟨_, _, _, _, _, _, rfl, by unfold noneFails; decide, by decide⟩,
    [0, 0x10, 0x27, 0, 0, 0, 0, 0, 0, 0x20, 0x03, 0], by decide +kernel⟩
theorem witness_HostChecksComeBeforeAnyExchange :
    ([1, 1, 1, 1, 1, 1, 1] : List Int).length ≠ 6 ∧ ¬((1 : Int) ≤ 0 ∧ (0 : Int) ≤ 12) ∧ ¬((1 : Int) ≤ 13 ∧ (13 : Int) ≤ 12) ∧
    { State.reset with requests := [.sequence (.readEnergyMonth 0)] }.requests = [.sequence (.readEnergyMonth 0)] := by decide
theorem witness_ExchangesLeaveTheRest :
    isHostOperation .unlockArchive = true ∧ ∃ t u, exec (.exchange 0 [] 4) State.reset = .next t ∧
      exec .unlockArchive State.reset = .next u := ⟨rfl, _, _, rfl, rfl⟩
theorem witness_SerialNumberIsDecimalText : ([0x11, 0x09] : Bytes).length < 3 := by decide
theorem witness_PassportHoldsItsDecodedFields :
    (served 6).inputs = ((List.replicate 6 energyFrame).map answersWith).flatten ++ [] ∧
    goodReply (served 6) (served 6).hostMin.netaddr energyFrame 0 (0 :: [0x10, 0x27, 0, 0, 0, 0, 0, 0, 0x20, 0x03, 0]) := by
  unfold goodReply
  decide +kernel
theorem witness_EnergySetHoldsItsReadings :
    (served 8).inputs = ((energyFrame :: energyFrame ::
      (List.replicate 6 (energyFrame, (0 : Byte), ([0, 0x10, 0x27, 0, 0, 0, 0, 0, 0, 0x20, 0x03, 0] : Bytes))).map
        Prod.fst).map answersWith).flatten ++ [] ∧
    goodReply (served 8) (served 8).hostMin.energy energyFrame 0 [0, 0x10, 0x27, 0, 0, 0, 0, 0, 0, 0x20, 0x03, 0] ∧
    (1 : Int) ≤ 1 ∧ (12 : Int) ≤ 12 := by
  unfold goodReply
  decide +kernel
theorem witness_EnergyYearHoldsItsReadings :
    (served 74).inputs = ((energyFrame :: energyFrame :: (List.replicate 12 (List.replicate 6
      (energyFrame, (0 : Byte), ([0, 0x10, 0x27, 0, 0, 0, 0, 0, 0, 0x20, 0x03, 0] : Bytes)))).flatten.map
        Prod.fst).map answersWith).flatten ++ [] := by decide +kernel
theorem witness_SequencesSendTheirFrames :
    succeeded (runSequence .readEnergyAll (served 74)).hostOut = true ∧
    succeeded (runSequence .readPassport (served 6)).hostOut = true ∧
    succeeded (runSequence .prepareEnergy (served 2)).hostOut = true ∧
    succeeded (runSequence .readEnergyReset (served 8)).hostOut = true ∧
    succeeded (runSequence (.readEnergyMonth 1) (served 8)).hostOut = true ∧
    succeeded (runSequence (.readEnergyMonth 12) (served 8)).hostOut = true := by decide +kernel
theorem witness_SequencesStopAtTheFirstFailure :  -- T-HOST-18: a failed exchange, a failed check, and none
    (1 : Int) ≤ 12 ∧ (12 : Int) ≤ 12 ∧
    (runExchanges (exchangesOf .readEnergyReset (served 4).hostMin)
      { served 4 with inputs := answers 4 energyFrame ++ nothing.draws }).1 =
      some (.err { reason := .silent, address := some 1, command := some 5, attempts := some 1 }) ∧
    (runExchanges (exchangesOf .readPassport (served 6).hostMin) { served 6 with inputs := answers 3 linkFrame }).1 =
      some (.err { reason := .shortPayload }) ∧
    (runExchanges (exchangesOf (.readEnergyMonth 12) (served 8).hostMin) (served 8)).1 = none := by decide +kernel

end Sys2Proof.Tests
end

/-! # The scope of the block: every step answers, and what EXCHANGE and the host operations leave alone (O6, O52) -/

namespace Sys2Proof.Machine

open Sys2Proof

/-! ### Every step answers a next state -/

/-- No operation stops the machine (R320). -/
theorem exec_next (i : Instr) (s : State) : ∃ t, exec i s = .next t := by
  cases i <;> exact ⟨_, rfl⟩

/-- No step stops the machine (R320, R329). -/
theorem step_next (s : State) : ∃ t, step s = .next t := by
  unfold step
  split
  · split
    · exact ⟨_, rfl⟩
    · exact exec_next _ _
    · exact ⟨_, rfl⟩
    · exact ⟨_, rfl⟩
  · exact ⟨_, rfl⟩

/-- A request that is no sequence and decodes to an error is malformed. -/
theorem fetchRequest_of_decode_error {r : Request} {why : DecodeError} (hseq : ∀ q, r ≠ .sequence q)
    (h : decode r = .error why) : fetchRequest r = .malformed why := by
  cases r with
  | sequence q => exact absurd rfl (hseq q)
  | transaction bs => simp [fetchRequest, h]
  | wire f => simp [fetchRequest, h]
  | call i => simp [fetchRequest, h]

/-- What the host presents is its first request. -/
theorem fetch_of_requests {s : State} {r : Request} {rest : List Request} (h : s.requests = r :: rest) :
    fetch s = fetchRequest r := by
  simp [fetch, h]

/-- The state in which the first request is run. -/
theorem popRequest_of_requests {s : State} {r : Request} {rest : List Request} (h : s.requests = r :: rest) :
    s.popRequest = { s with requests := rest } := by
  simp [State.popRequest, h]

/-- In IDLE a malformed request is taken from the list and refused (R10, R325; log 24). -/
theorem step_of_malformed {s : State} {why : DecodeError} (hidle : s.fsm = .idle) (h : fetch s = .malformed why) :
    step s = .next (s.popRequest.refuse .illegalOp) := by
  simp [step, hidle, h, refuseMalformed]

/-- Settles O6: each branch of a step ends in a next state, and the branch of a malformed request is the refusal. -/
theorem everyStepAnswersANextState : Obligations.EveryStepAnswersANextState := by
  unfold Obligations.EveryStepAnswersANextState
  refine ⟨step_next, fun s r rest why hidle hreq hseq hdec => ?_⟩
  have hfetch : fetch s = .malformed why := by
    rw [fetch_of_requests hreq, fetchRequest_of_decode_error hseq hdec]
  rw [step_of_malformed hidle hfetch, popRequest_of_requests hreq]
  rfl

/-! ### What no EXCHANGE and no host operation writes -/

/-- The part of the state that EXCHANGE and the host operations only read: the lifecycle, the registers CONFIGURE writes
(R33 to R36), the host's coming requests and its parameters. -/
structure Settings where
  lc : Lifecycle
  addr : Byte
  retries : Nat
  timeout : Rat
  kind : TransportKind
  params : OpenParams
  requests : List Request
  hostMin : MinLens
  passportParams : PassportParams

/-- The settings of a state. -/
def State.settings (s : State) : Settings :=
  ⟨s.lc, s.addr, s.retries, s.timeout, s.kind, s.params, s.requests, s.hostMin, s.passportParams⟩

/-- What the block leaves alone in an EXCHANGE: the settings, and the host's result, which is the host's to write (R6). -/
def State.keptByExchange (s : State) : Settings × HostOutcome := (s.settings, s.hostOut)

/-- States with the same settings differ in the other fields at most. -/
theorem eq_update_of_settings_eq {s t : State} (h : t.settings = s.settings) :
    t = { s with
      fsm := t.fsm, att := t.att, cmd := t.cmd, data := t.data, minlen := t.minlen, req := t.req, rx := t.rx
      lastRaw := t.lastRaw, allShort := t.allShort, lastErr := t.lastErr, lastPe := t.lastPe, crc := t.crc, out := t.out
      refusedMark := t.refusedMark, availN := t.availN, opCmd := t.opCmd, opData := t.opData, pending := t.pending
      tx := t.tx, calls := t.calls, inputs := t.inputs, drawCount := t.drawCount, hostOut := t.hostOut } := by
  obtain ⟨hlc, haddr, hretries, htimeout, hkind, hparams, hrequests, hmin, hpassport⟩ := Settings.mk.inj h
  rw [← hlc, ← haddr, ← hretries, ← htimeout, ← hkind, ← hparams, ← hrequests, ← hmin, ← hpassport]

/-! ### The exchange controller -/

/-- CHECK_LEN writes the controller's own registers only (R200). -/
theorem fsmCheckLen_keptByExchange (s : State) : (fsmCheckLen s).keptByExchange = s.keptByExchange := by
  unfold fsmCheckLen
  split <;> rfl

/-- A transition of the exchange controller writes its own registers, CRC, OUT and the environment's side only (R196). -/
theorem fsmStep_keptByExchange (s : State) : (fsmStep s).keptByExchange = s.keptByExchange := by
  unfold fsmStep
  cases s.fsm with
  | idle => rfl
  | build => rcases fsmBuild_cases s with ⟨r, -, h⟩ | ⟨f, -, h⟩ <;> (rw [h]; rfl)
  | discard => rcases fsmDiscard_cases s with ⟨-, h⟩ | ⟨-, h⟩ <;> (rw [h]; rfl)
  | write => rcases fsmWrite_cases s with ⟨-, h⟩ | ⟨-, h⟩ <;> (rw [h]; rfl)
  | readHead => rcases fsmReadHead_cases s with ⟨-, h⟩ | ⟨-, k, -, -, h⟩ <;> (rw [h]; rfl)
  | pollAvail => rcases fsmPollAvail_cases s with ⟨-, h⟩ | ⟨-, -, h⟩ | ⟨-, -, h⟩ <;> (rw [h]; rfl)
  | readTail => rcases fsmReadTail_cases s with ⟨-, h⟩ | ⟨-, k, -, -, h⟩ <;> (rw [h]; rfl)
  | checkLen => exact fsmCheckLen_keptByExchange s
  | parse => rcases fsmParse_cases s with ⟨a, rc, p, -, h⟩ | ⟨r, -, h⟩ <;> (rw [h, useCrcToParse_eq]; rfl)
  | classify =>
    obtain ⟨info, h, -⟩ := fsmClassify_cases s
    rw [h]
    rfl

/-- So does a run of transitions. -/
theorem runFsm_keptByExchange (n : Nat) (s : State) : (runFsm n s).keptByExchange = s.keptByExchange :=
  runFsm_keeps (P := fun t => t.keptByExchange = s.keptByExchange)
    (fun t _ ht => (fsmStep_keptByExchange t).trans ht) n s rfl

/-- So does EXCHANGE, refused or run, in every state (R190, R216). -/
theorem exchange_keptByExchange (c : Int) (d : List Int) (m : Nat) (s : State) :
    (exchange c d m s).keptByExchange = s.keptByExchange := by
  unfold exchange State.whenIdle
  split
  · unfold runExchange
    split
    · exact runFsm_keptByExchange _ _
    · rfl
  · rfl

/-- EXCHANGE writes no setting. -/
@[simp] theorem exchange_settings (c : Int) (d : List Int) (m : Nat) (s : State) :
    (exchange c d m s).settings = s.settings :=
  congrArg Prod.fst (exchange_keptByExchange c d m s)

/-- EXCHANGE leaves the host's result. -/
@[simp] theorem exchange_hostOut (c : Int) (d : List Int) (m : Nat) (s : State) :
    (exchange c d m s).hostOut = s.hostOut :=
  congrArg Prod.snd (exchange_keptByExchange c d m s)

/-! ### The host operations -/

/-- An EXCHANGE the host issues is an EXCHANGE. -/
@[simp] theorem hostExchange_settings (c : Int) (d : List Int) (m : Nat) (s : State) :
    (hostExchange c d m s).2.settings = s.settings :=
  exchange_settings c d m s

/-- A host-side check changes nothing. -/
@[simp] theorem hostCheck_state {α : Type} (x : Except Reason α) (s : State) : (hostCheck x s).2 = s := by
  cases x <;> rfl

/-- A sequence of two pieces keeps what both keep. -/
theorem hostThen_settings {α β : Type} {x : HostStep α} {next : α → State → HostStep β}
    (h : ∀ a t, (next a t).2.settings = t.settings) : (hostThen x next).2.settings = x.2.settings := by
  obtain ⟨r, s⟩ := x
  cases r with
  | ok a => exact h a s
  | error o => rfl

/-- The end of a host operation writes the host's result only. -/
@[simp] theorem hostEnd_settings {α : Type} (x : HostStep α) (result : α → HostResult) :
    (hostEnd x result).settings = x.2.settings := by
  obtain ⟨r, s⟩ := x
  cases r <;> rfl

/-- OPEN_SESSION's check and exchange write no setting. -/
@[simp] theorem hostOpenSession_settings (lvl : Int) (pw : List Int) (s : State) :
    (hostOpenSession lvl pw s).2.settings = s.settings := by
  unfold hostOpenSession
  split
  · exact hostExchange_settings _ _ _ s
  · rw [hostCheck_state]

/-- An exchange and a check of its response write no setting. -/
theorem hostThen_hostCheck_settings {α β : Type} (x : HostStep α) (check : α → Except Reason β) :
    (hostThen x fun a t => hostCheck (check a) t).2.settings = x.2.settings :=
  hostThen_settings fun a t => by rw [hostCheck_state]

/-- READ_ENERGY's exchange and check write no setting. -/
@[simp] theorem hostReadEnergy_settings (group index : Int) (s : State) :
    (hostReadEnergy group index s).2.settings = s.settings :=
  (hostThen_hostCheck_settings _ fun r : Byte × Bytes => energyOf r.1 r.2).trans (hostExchange_settings _ _ _ s)

/-- A host operation writes no setting: what the block does in it is EXCHANGE and nothing else (R6, R260). -/
theorem exec_hostOperation_settings {i : Instr} {s t : State} (hi : isHostOperation i = true) (h : exec i s = .next t) :
    t.settings = s.settings := by
  cases i <;> cases hi <;> obtain rfl := Host.Outcome.next.inj h <;> refine (hostEnd_settings _ _).trans ?_
  case testLink => exact hostExchange_settings _ _ _ s
  case openSession lvl pw => exact hostOpenSession_settings lvl pw s
  case readEnergy group index => exact hostReadEnergy_settings group index s
  case readInfo => exact hostExchange_settings _ _ _ s
  case readRatios => exact hostExchange_settings _ _ _ s
  case readVersion => exact hostExchange_settings _ _ _ s
  case readNetaddr =>
    exact (hostThen_hostCheck_settings _ fun r : Byte × Bytes => netaddrOf r.2).trans (hostExchange_settings _ _ _ s)
  case unlockArchive => exact hostExchange_settings _ _ _ s

/-- Settles O52: no transition of the exchange controller and no host-side piece writes a setting. -/
theorem exchangesLeaveTheRest : Obligations.ExchangesLeaveTheRest := by
  unfold Obligations.ExchangesLeaveTheRest
  rintro s t i (⟨c, d, m, rfl⟩ | hi) h
  · obtain rfl := Host.Outcome.next.inj h
    exact ⟨eq_update_of_settings_eq (exchange_settings c d m s), fun _ => exchange_hostOut c d m s⟩
  · refine ⟨eq_update_of_settings_eq (exec_hostOperation_settings hi h), fun hblock => ?_⟩
    rw [hi] at hblock
    cases hblock

end Sys2Proof.Machine

/-! # The state: what a step can do, and what every step keeps (O42, O43, O44, O46, O14, O37, O5, O10, O17, O41) -/

namespace Sys2Proof.Machine

open Sys2Proof

/-! ### The transitions of the exchange controller -/

/-- CHECK_LEN: a short attempt is noted, a long one is parsed (R200). -/
theorem fsmCheckLen_cases (s : State) :
    (s.rx.length < Config.minFrame ∧ fsmCheckLen s = s.noteShort.nextAttempt) ∨
    (Config.minFrame ≤ s.rx.length ∧ fsmCheckLen s = { s.noteLong with fsm := .parse }) := by
  unfold fsmCheckLen
  by_cases h : s.rx.length < Config.minFrame
  · exact Or.inl ⟨h, if_pos h⟩
  · exact Or.inr ⟨by omega, if_neg h⟩

/-- No transition touches REFUSED_MARK (R48). -/
theorem fsmStep_refusedMark (s : State) : (fsmStep s).refusedMark = s.refusedMark := by
  unfold fsmStep
  cases s.fsm with
  | idle => rfl
  | build => rcases fsmBuild_cases s with ⟨r, -, h⟩ | ⟨f, -, h⟩ <;> simp [h]
  | discard => rcases fsmDiscard_cases s with ⟨-, h⟩ | ⟨-, h⟩ <;> simp [h]
  | write => rcases fsmWrite_cases s with ⟨-, h⟩ | ⟨-, h⟩ <;> simp [h]
  | readHead => rcases fsmReadHead_cases s with ⟨-, h⟩ | ⟨-, k, -, -, h⟩ <;> simp [h]
  | pollAvail => rcases fsmPollAvail_cases s with ⟨-, h⟩ | ⟨-, -, h⟩ | ⟨-, -, h⟩ <;> simp [h]
  | readTail => rcases fsmReadTail_cases s with ⟨-, h⟩ | ⟨-, k, -, -, h⟩ <;> simp [h]
  | checkLen => rcases fsmCheckLen_cases s with ⟨-, h⟩ | ⟨-, h⟩ <;> simp [h]
  | parse => rcases fsmParse_cases s with ⟨a, rc, p, -, h⟩ | ⟨r, -, h⟩ <;> simp [h, useCrcToParse_eq]
  | classify => obtain ⟨info, h, -⟩ := fsmClassify_cases s; simp [h]

/-! ### An exchange comes to its end -/

/-- How many transitions an exchange takes at most until STATE is IDLE: one build, seven per attempt, one
classification (R212). -/
def transitionsLeft (s : State) : Nat :=
  match s.fsm with
  | .idle => 0
  | .build => 7 * (s.retries + 1) + 2
  | .discard => 7 * (s.retries - s.att) + 8
  | .write => 7 * (s.retries - s.att) + 7
  | .readHead => 7 * (s.retries - s.att) + 6
  | .pollAvail => 7 * (s.retries - s.att) + 5
  | .readTail => 7 * (s.retries - s.att) + 4
  | .checkLen => 7 * (s.retries + 1 - s.att) + 3
  | .parse => 7 * (s.retries + 1 - s.att) + 2
  | .classify => 1

/-- How many transport calls an exchange makes at most until STATE is IDLE: five per attempt (R212, R213). -/
def callsLeft (s : State) : Nat :=
  match s.fsm with
  | .idle => 0
  | .build => 5 * (s.retries + 1)
  | .discard => 5 * (s.retries - s.att) + 5
  | .write => 5 * (s.retries - s.att) + 4
  | .readHead => 5 * (s.retries - s.att) + 3
  | .pollAvail => 5 * (s.retries - s.att) + 2
  | .readTail => 5 * (s.retries - s.att) + 1
  | .checkLen => 5 * (s.retries + 1 - s.att)
  | .parse => 5 * (s.retries + 1 - s.att)
  | .classify => 0

/-- From `s` to `t` fewer transitions are left, and the calls left with the calls made are no more. -/
def Progress (s t : State) : Prop :=
  transitionsLeft t < transitionsLeft s ∧ t.calls.length + callsLeft t ≤ s.calls.length + callsLeft s

/-- Another attempt is counted in the attempts that remain, and so is the classification. -/
theorem nextAttempt_left (s : State) :
    transitionsLeft s.nextAttempt ≤ 7 * (s.retries + 1 - s.att) + 1 ∧
      callsLeft s.nextAttempt ≤ 5 * (s.retries + 1 - s.att) := by
  rcases nextAttempt_cases s with ⟨hatt, h⟩ | ⟨-, h⟩
  · simp only [h, transitionsLeft, callsLeft]
    omega
  · simp [h, transitionsLeft, callsLeft]

/-- A failed transport call ends the exchange, and was one of those left (R203). -/
theorem progress_of_abort {s : State} (hf : receiving s.fsm = true) (c : TransportCall) (reason : Reason)
    (raw : Bytes) : Progress s ((s.callTransport c).abort reason raw) := by
  cases hfsm : s.fsm <;> simp [hfsm, receiving, Progress, transitionsLeft, callsLeft] at hf ⊢

/-- Every transition of a running exchange makes progress, whatever the environment answers. -/
theorem fsmStep_progress {s : State} (hrun : s.fsm ≠ .idle) : Progress s (fsmStep s) := by
  unfold fsmStep
  cases hf : s.fsm with
  | idle => exact absurd hf hrun
  | build =>
    rcases fsmBuild_cases s with ⟨r, -, h⟩ | ⟨f, -, h⟩
    · simp [Progress, h, hf, transitionsLeft, callsLeft]
    · simp [Progress, h, hf, transitionsLeft, callsLeft]
      omega
  | discard =>
    rcases fsmDiscard_cases s with ⟨-, h⟩ | ⟨-, h⟩
    · exact h ▸ progress_of_abort (by simp [hf, receiving]) _ _ _
    · simp [Progress, h, hf, transitionsLeft, callsLeft]
      omega
  | write =>
    rcases fsmWrite_cases s with ⟨-, h⟩ | ⟨-, h⟩
    · exact h ▸ progress_of_abort (by simp [hf, receiving]) _ _ _
    · simp [Progress, h, hf, transitionsLeft, callsLeft]
      omega
  | readHead =>
    rcases fsmReadHead_cases s with ⟨-, h⟩ | ⟨-, k, -, -, h⟩
    · exact h ▸ progress_of_abort (by simp [hf, receiving]) _ _ _
    · simp [Progress, h, hf, transitionsLeft, callsLeft]
      omega
  | pollAvail =>
    rcases fsmPollAvail_cases s with ⟨-, h⟩ | ⟨-, -, h⟩ | ⟨-, -, h⟩
    · exact h ▸ progress_of_abort (by simp [hf, receiving]) _ _ _
    · simp [Progress, h, hf, transitionsLeft, callsLeft]
      omega
    · simp [Progress, h, hf, transitionsLeft, callsLeft]
      omega
  | readTail =>
    rcases fsmReadTail_cases s with ⟨-, h⟩ | ⟨-, k, -, -, h⟩
    · exact h ▸ progress_of_abort (by simp [hf, receiving]) _ _ _
    · simp [Progress, h, hf, transitionsLeft, callsLeft]
      omega
  | checkLen =>
    rcases fsmCheckLen_cases s with ⟨-, h⟩ | ⟨-, h⟩
    · have hnext := nextAttempt_left s.noteShort
      simp [Progress, h, hf, transitionsLeft, callsLeft] at hnext ⊢
      omega
    · simp [Progress, h, hf, transitionsLeft, callsLeft]
  | parse =>
    rcases fsmParse_cases s with ⟨a, rc, p, -, h⟩ | ⟨r, -, h⟩
    · simp [Progress, h, hf, useCrcToParse_eq, transitionsLeft, callsLeft]
    · have hnext := nextAttempt_left ((s.useCrcToParse s.rx).noteParseError r)
      simp [Progress, h, hf, useCrcToParse_eq, transitionsLeft, callsLeft] at hnext ⊢
      omega
  | classify =>
    obtain ⟨info, h, -⟩ := fsmClassify_cases s
    simp [Progress, h, hf, transitionsLeft, callsLeft]

/-- With no transition left STATE is IDLE. -/
theorem fsm_idle_of_transitionsLeft {s : State} (h : transitionsLeft s = 0) : s.fsm = .idle := by
  unfold transitionsLeft at h
  cases hf : s.fsm <;> simp [hf] at h ⊢

/-- A run long enough ends in IDLE. -/
theorem runFsm_idle {n : Nat} {s : State} (h : transitionsLeft s ≤ n) : (runFsm n s).fsm = .idle := by
  induction n generalizing s with
  | zero => exact fsm_idle_of_transitionsLeft (Nat.le_zero.1 h)
  | succ k ih =>
    by_cases hf : s.fsm = .idle
    · rw [runFsm_of_idle hf]
      exact hf
    · rw [runFsm_of_running hf]
      have hlt := (fsmStep_progress hf).1
      exact ih (by omega)

/-- A run makes no more calls than were left to make. -/
theorem runFsm_calls_length (n : Nat) (s : State) : (runFsm n s).calls.length ≤ s.calls.length + callsLeft s := by
  have hkept : (runFsm n s).calls.length + callsLeft (runFsm n s) ≤ s.calls.length + callsLeft s :=
    runFsm_keeps (P := fun t => t.calls.length + callsLeft t ≤ s.calls.length + callsLeft s)
      (fun t ht hle => (fsmStep_progress ht).2.trans hle) n s le_rfl
  omega

/-- In IDLE, EXCHANGE runs the controller from its latch with an open transport, and is refused without (R190, R191). -/
theorem exchange_cases {s : State} (hidle : s.fsm = .idle) (c : Int) (d : List Int) (m : Nat) :
    (s.lc = .opened ∧ exchange c d m s = runFsm (exchangeBound s) (s.latchExchange c d m)) ∨
    (s.lc ≠ .opened ∧ exchange c d m s = s.refuse .notOpen) := by
  unfold exchange runExchange
  rw [whenIdle_of_idle hidle]
  by_cases hlc : s.lc = .opened
  · exact Or.inl ⟨hlc, if_pos hlc⟩
  · exact Or.inr ⟨hlc, if_neg hlc⟩

/-- What the latch and every transition of a running exchange keep, EXCHANGE keeps; and so it does when refused. -/
theorem exchange_keeps {P : State → Prop} (hrefuse : ∀ s r, P s → P (s.refuse r))
    (hlatch : ∀ s c d m, s.fsm = .idle → s.lc = .opened → P s → P (s.latchExchange c d m))
    (hstep : ∀ s, s.fsm ≠ .idle → P s → P (fsmStep s)) (c : Int) (d : List Int) (m : Nat) {s : State} (h : P s) :
    P (exchange c d m s) := by
  by_cases hidle : s.fsm = .idle
  · rcases exchange_cases hidle c d m with ⟨hlc, he⟩ | ⟨-, he⟩ <;> rw [he]
    · exact runFsm_keeps hstep _ _ (hlatch s c d m hidle hlc h)
    · exact hrefuse s _ h
  · unfold exchange
    rw [whenIdle_of_busy hidle]
    exact hrefuse s _ h

/-- EXCHANGE ends in IDLE: the bound of R212 is the number of transitions left after the latch. -/
theorem exchange_idle {s : State} (hidle : s.fsm = .idle) (c : Int) (d : List Int) (m : Nat) :
    (exchange c d m s).fsm = .idle := by
  rcases exchange_cases hidle c d m with ⟨-, he⟩ | ⟨-, he⟩ <;> rw [he]
  · exact runFsm_idle le_rfl
  · exact hidle

/-- EXCHANGE makes at most five calls per attempt (R212). -/
theorem exchange_calls_length {s : State} (hidle : s.fsm = .idle) (c : Int) (d : List Int) (m : Nat) :
    (exchange c d m s).calls.length ≤ s.calls.length + 5 * (s.retries + 1) := by
  rcases exchange_cases hidle c d m with ⟨-, he⟩ | ⟨-, he⟩ <;> rw [he]
  · exact runFsm_calls_length _ _
  · simp

/-- EXCHANGE never clears REFUSED_MARK. -/
theorem exchange_refusedMark (c : Int) (d : List Int) (m : Nat) {s : State} (h : s.refusedMark = true) :
    (exchange c d m s).refusedMark = true :=
  exchange_keeps (P := fun t => t.refusedMark = true) (fun _ _ _ => rfl) (fun _ _ _ _ _ _ ht => ht)
    (fun t _ ht => (fsmStep_refusedMark t).trans ht) c d m h

/-- Settles O37: each transition leaves fewer transitions, and no more calls, than were left before it. -/
theorem everyExchangeEnds : Obligations.EveryExchangeEnds := by
  unfold Obligations.EveryExchangeEnds
  intro s c d m hidle
  exact ⟨exchange c d m s, rfl, exchange_idle hidle c d m, exchange_calls_length hidle c d m⟩

/-! ### What a step can do -/

/-- What a host operation or a sequence can do to the state: an EXCHANGE, or the writing of the host's result (R6,
R260). -/
inductive HostMove (s : State) : State → Prop
  | exchange (c : Int) (d : List Int) (m : Nat) : HostMove s (exchange c d m s)
  | record (o : HostOutcome) : HostMove s { s with hostOut := o }

/-- Any number of such moves. -/
abbrev HostRun : State → State → Prop := Relation.ReflTransGen HostMove

/-- What EXCHANGE and the writing of the host's result keep, a run of the host's moves keeps. -/
theorem HostRun.keeps {P : State → Prop} {s t : State} (hrun : HostRun s t)
    (hexchange : ∀ u c d m, P u → P (exchange c d m u)) (hrecord : ∀ u o, P u → P { u with hostOut := o }) (h : P s) :
    P t := by
  induction hrun with
  | refl => exact h
  | tail _ hmove ih =>
    cases hmove with
    | exchange c d m => exact hexchange _ c d m ih
    | record o => exact hrecord _ o ih

/-- An EXCHANGE the host issues is a run of one move. -/
theorem hostExchange_run (c : Int) (d : List Int) (m : Nat) (s : State) : HostRun s (hostExchange c d m s).2 :=
  .single (.exchange c d m)

/-- A host-side check makes no move. -/
theorem hostCheck_run {α : Type} (x : Except Reason α) (s : State) : HostRun s (hostCheck x s).2 := by
  rw [hostCheck_state]

/-- Two pieces in sequence: the moves of the first, and of the second where it is reached. -/
theorem hostThen_run {α β : Type} {s : State} {x : HostStep α} {next : α → State → HostStep β} (hx : HostRun s x.2)
    (hnext : ∀ a t, HostRun t (next a t).2) : HostRun s (hostThen x next).2 := by
  obtain ⟨r, t⟩ := x
  cases r with
  | ok a => exact hx.trans (hnext a t)
  | error o => exact hx

/-- The end of a host operation writes the host's result. -/
theorem hostEnd_run {α : Type} {s : State} {x : HostStep α} (result : α → HostResult) (hx : HostRun s x.2) :
    HostRun s (hostEnd x result) := by
  obtain ⟨r, t⟩ := x
  cases r <;> exact hx.tail (.record _)

/-! The pieces of the host profile, in the order of their definitions (R263, R268, R275 to R279). -/

theorem hostOpenSession_run (lvl : Int) (pw : List Int) (s : State) : HostRun s (hostOpenSession lvl pw s).2 := by
  unfold hostOpenSession
  split
  · exact hostExchange_run _ _ _ s
  · exact hostCheck_run _ s

theorem hostReadEnergy_run (group index : Int) (s : State) : HostRun s (hostReadEnergy group index s).2 :=
  hostThen_run (hostExchange_run _ _ _ s) fun _ t => hostCheck_run _ t

theorem hostPrepareEnergy_run (s : State) : HostRun s (hostPrepareEnergy s).2 :=
  hostThen_run (hostOpenSession_run _ _ s) fun _ t => hostExchange_run _ _ _ t

theorem hostReadGroup_run (group : Int) (labels : List TariffLabel) (s : State) :
    HostRun s (hostReadGroup group labels s).2 := by
  induction labels generalizing s with
  | nil => exact .refl
  | cons l rest ih => exact hostThen_run (hostReadEnergy_run _ _ s) fun _ t => hostThen_run (ih t) fun _ _ => .refl

theorem hostReadSet_run (group : Int) (s : State) : HostRun s (hostReadSet group s).2 :=
  hostThen_run (hostReadGroup_run _ _ s) fun _ _ => .refl

theorem hostEnergyMonth_run (m : Int) (s : State) : HostRun s (hostEnergyMonth m s).2 := by
  unfold hostEnergyMonth
  split
  · exact hostThen_run (hostPrepareEnergy_run s) fun _ t => hostReadSet_run _ t
  · exact hostCheck_run _ s

theorem hostReadMonths_run (months : List Int) (s : State) : HostRun s (hostReadMonths months s).2 := by
  induction months generalizing s with
  | nil => exact .refl
  | cons m rest ih => exact hostThen_run (hostReadSet_run _ s) fun _ t => hostThen_run (ih t) fun _ _ => .refl

theorem hostPassport_run (s : State) : HostRun s (hostPassport s).2 :=
  hostThen_run (hostExchange_run _ _ _ s) fun _ s1 =>
  hostThen_run (hostOpenSession_run _ _ s1) fun _ s2 =>
  hostThen_run (hostExchange_run _ _ _ s2) fun _ s3 =>
  hostThen_run (hostCheck_run _ s3) fun _ s4 =>
  hostThen_run (hostExchange_run _ _ _ s4) fun _ s5 =>
  hostThen_run (hostExchange_run _ _ _ s5) fun _ s6 =>
  hostThen_run (hostExchange_run _ _ _ s6) fun _ _ => .refl

/-- A sequence is a run of the host's moves (R115). -/
theorem runSequence_run (q : Sequence) (s : State) : HostRun s (runSequence q s) := by
  cases q with
  | readPassport => exact hostEnd_run _ (hostPassport_run s)
  | prepareEnergy => exact hostEnd_run _ (hostPrepareEnergy_run s)
  | readEnergyReset => exact hostEnd_run _ (hostThen_run (hostPrepareEnergy_run s) fun _ t => hostReadSet_run _ t)
  | readEnergyMonth m => exact hostEnd_run _ (hostEnergyMonth_run m s)
  | readEnergyAll => exact hostEnd_run _ (hostThen_run (hostPrepareEnergy_run s) fun _ t => hostReadMonths_run _ t)

/-- What one request of the host can do to the state, the request itself already taken from the list. -/
inductive Effect (s : State) : State → Prop
  /-- A refusal (R325). -/
  | refused (r : RefusalReason) : Effect s (s.refuse r)
  /-- CHECKSUM, BUILD and PARSE that succeed, and a CLOSE with nothing to close. -/
  | answered (x : Word16) (v : OkValue) : Effect s (({ s with crc := x }).succeed v)
  /-- BUILD and PARSE that fail, and CONFIGURE with an operand outside its domain. -/
  | rejected (x : Word16) (info : Info) (hreason : info.reason ≠ .fallback) : Effect s (({ s with crc := x }).fail info)
  /-- CONFIGURE whose open fails (R243). -/
  | openFailed (hlc : s.lc = .unconfigured) (k : TransportKind) (p : OpenParams) :
      Effect s ((s.callTransport (.connect k p)).fail { reason := .ioOpen })
  /-- CONFIGURE whose open succeeds (R240). -/
  | opened (hlc : s.lc = .unconfigured) (c : Configuration) (p : OpenParams) :
      Effect s (((s.callTransport (.connect c.kind p)).loadConfig c p).succeed .unit)
  /-- CLOSE of an open transport (R250). -/
  | closed (hlc : s.lc = .opened) : Effect s (({ transportClose s with lc := .closed }).succeed .unit)
  /-- EXCHANGE, the host operations and the sequences. -/
  | hosted {t : State} (hrun : HostRun s t) : Effect s t

/-- An operation of the block has its effect in IDLE and is refused elsewhere (R326). -/
theorem whenIdle_effect {s : State} {body : State → State} (h : Effect s (body s)) : Effect s (s.whenIdle body) := by
  by_cases hidle : s.fsm = .idle
  · rwa [whenIdle_of_idle hidle]
  · rw [whenIdle_of_busy hidle]
    exact .refused _

/-- CONFIGURE's checks fail with INVALID_ARGUMENT (R241, R242). -/
theorem checkConfig_error_kind {kind : KindArg} {address retries : HostValue} {timeout : Rat} {r : Reason}
    (h : checkConfig kind address timeout retries = .error r) : r.kind = .invalidArgument := by
  have haddress : ∀ {e}, decodeAddress address = .error e → e.kind = .invalidArgument := by
    unfold decodeAddress
    grind [Reason.kind]
  have hkind : ∀ {e}, decodeKind kind = .error e → e.kind = .invalidArgument := by
    unfold decodeKind
    grind [Reason.kind]
  have hretries : ∀ {e}, decodeRetries retries = .error e → e.kind = .invalidArgument := by
    unfold decodeRetries
    grind [Reason.kind]
  have htimeout : ∀ {e}, decodeTimeout timeout = .error e → e.kind = .invalidArgument := by
    unfold decodeTimeout
    grind [Reason.kind]
  unfold checkConfig at h
  grind

/-! The block's own operations. -/

theorem runChecksum_effect (b : Bytes) (s : State) : Effect s (runChecksum b s) := .answered _ _

theorem runBuild_effect (a c : Int) (d : List Int) (s : State) : Effect s (runBuild a c d s) := by
  unfold runBuild
  cases h : buildRequest a c d with
  | error r => exact .rejected s.crc _ (by rcases buildRequest_error h with rfl | rfl | rfl <;> simp)
  | ok f => exact .answered _ _

theorem runParse_effect (f : Bytes) (e : Option Int) (s : State) : Effect s (runParse f e s) := by
  unfold runParse
  rw [useCrcToParse_eq]
  cases parseFrame f e with
  | error r => exact .rejected _ _ (by cases r <;> simp [ParseReason.toReason])
  | ok x => exact .answered _ _

theorem runConfigure_effect (kind : KindArg) (address : HostValue) (timeout : Rat) (retries : HostValue)
    (p : OpenParams) (s : State) : Effect s (runConfigure kind address timeout retries p s) := by
  unfold runConfigure
  split
  next hlc =>
    cases h : checkConfig kind address timeout retries with
    | error r =>
      have hkind := checkConfig_error_kind h
      exact .rejected s.crc _ (by rintro rfl; cases hkind)
    | ok c =>
      rcases transportOpen_cases c.kind p s with ⟨-, ho⟩ | ⟨-, ho⟩ <;> simp only [ho]
      · exact .openFailed hlc _ _
      · exact .opened hlc _ _
  next => exact .refused _

theorem runClose_effect (s : State) : Effect s (runClose s) := by
  unfold runClose
  split
  next hlc => exact .closed hlc
  next => exact .answered s.crc .unit

/-- What each operation can do, in any state. -/
theorem exec_effect {i : Instr} {s t : State} (h : exec i s = .next t) : Effect s t := by
  cases i <;> obtain rfl := Host.Outcome.next.inj h
  case configure kind address timeout retries p => exact whenIdle_effect (runConfigure_effect _ _ _ _ _ s)
  case checksum b => exact whenIdle_effect (runChecksum_effect b s)
  case build a c d => exact whenIdle_effect (runBuild_effect a c d s)
  case parse f e => exact whenIdle_effect (runParse_effect f e s)
  case exchange c d m => exact .hosted (hostExchange_run c d m s)
  case close => exact whenIdle_effect (runClose_effect s)
  case reservedOp code => exact .refused _
  case testLink => exact .hosted (hostEnd_run _ (hostExchange_run _ _ _ s))
  case openSession lvl pw => exact .hosted (hostEnd_run _ (hostOpenSession_run lvl pw s))
  case readEnergy group index => exact .hosted (hostEnd_run _ (hostReadEnergy_run group index s))
  case readInfo => exact .hosted (hostEnd_run _ (hostExchange_run _ _ _ s))
  case readRatios => exact .hosted (hostEnd_run _ (hostExchange_run _ _ _ s))
  case readVersion => exact .hosted (hostEnd_run _ (hostExchange_run _ _ _ s))
  case readNetaddr =>
    exact .hosted (hostEnd_run _ (hostThen_run (hostExchange_run _ _ _ s) fun _ t => hostCheck_run _ t))
  case unlockArchive => exact .hosted (hostEnd_run _ (hostExchange_run _ _ _ s))

/-- What a step can do: one transition of a running exchange; in IDLE nothing, or the effect of the first request. -/
theorem step_cases {s t : State} (h : step s = .next t) :
    (s.fsm ≠ .idle ∧ t = fsmStep s) ∨ (s.fsm = .idle ∧ (t = s ∨ Effect s.popRequest t)) := by
  unfold step at h
  split at h
  next hidle =>
    refine Or.inr ⟨hidle, ?_⟩
    split at h
    · exact Or.inl (Host.Outcome.next.inj h).symm
    · exact Or.inr (exec_effect h)
    · exact Or.inr (Host.Outcome.next.inj h ▸ .hosted (runSequence_run _ _))
    · exact Or.inr (Host.Outcome.next.inj h ▸ .refused _)
  next hrun => exact Or.inl ⟨hrun, (Host.Outcome.next.inj h).symm⟩

/-! ### STATE, LC, the configuration and REFUSED_MARK -/

/-- A run of the host's moves that starts in IDLE ends there. -/
theorem HostRun.idle {s t : State} (hrun : HostRun s t) (hidle : s.fsm = .idle) : t.fsm = .idle :=
  hrun.keeps (P := fun u => u.fsm = .idle) (fun _ c d m hu => exchange_idle hu c d m) (fun _ _ hu => hu) hidle

/-- The host's moves write no setting. -/
theorem HostRun.settings {s t : State} (hrun : HostRun s t) : t.settings = s.settings :=
  hrun.keeps (P := fun u => u.settings = s.settings) (fun u c d m hu => (exchange_settings c d m u).trans hu)
    (fun _ _ hu => hu) rfl

/-- The host's moves never clear REFUSED_MARK. -/
theorem HostRun.refusedMark {s t : State} (hrun : HostRun s t) (h : s.refusedMark = true) : t.refusedMark = true :=
  hrun.keeps (P := fun u => u.refusedMark = true) (fun _ c d m hu => exchange_refusedMark c d m hu) (fun _ _ hu => hu) h

/-- A request is run from IDLE to IDLE. -/
theorem Effect.idle {s t : State} (he : Effect s t) (hidle : s.fsm = .idle) : t.fsm = .idle := by
  cases he with
  | refused r => exact hidle
  | hosted hrun => exact hrun.idle hidle
  | answered | rejected | openFailed | opened | closed => rfl

/-- Settles O46: a request is run from IDLE to IDLE, and without one nothing moves. -/
theorem operationsStartAndEndIdle : Obligations.OperationsStartAndEndIdle := by
  unfold Obligations.OperationsStartAndEndIdle
  intro s t hidle h
  rcases step_cases h with ⟨hrun, -⟩ | ⟨-, rfl | he⟩
  · exact absurd hidle hrun
  · exact hidle
  · exact he.idle hidle

/-- A transition of the exchange controller writes no setting. -/
theorem fsmStep_settings (s : State) : (fsmStep s).settings = s.settings :=
  congrArg Prod.fst (fsmStep_keptByExchange s)

/-- The registers CONFIGURE writes (R33 to R36). -/
def State.configuration (s : State) : Configuration × OpenParams :=
  (⟨s.addr, s.kind, s.retries, s.timeout⟩, s.params)

/-- The configuration is part of the settings. -/
theorem configuration_of_settings {s t : State} (h : t.settings = s.settings) : t.configuration = s.configuration := by
  obtain ⟨-, haddr, hretries, htimeout, hkind, hparams, -, -, -⟩ := Settings.mk.inj h
  simp only [State.configuration, haddr, hretries, htimeout, hkind, hparams]

/-- A request leaves the configuration alone once LC is past UNCONFIGURED: only CONFIGURE writes it (R88, R244). -/
theorem Effect.configuration {s t : State} (he : Effect s t) (hlc : s.lc ≠ .unconfigured) :
    t.configuration = s.configuration := by
  cases he with
  | openFailed h | opened h => exact absurd h hlc
  | hosted hrun => exact configuration_of_settings hrun.settings
  | refused | answered | rejected | closed => rfl

/-- Settles O43: of all a step can do only CONFIGURE writes these registers, and only in UNCONFIGURED. -/
theorem configurationNeverChangesAgain : Obligations.ConfigurationNeverChangesAgain := by
  unfold Obligations.ConfigurationNeverChangesAgain
  intro s t hlc h
  have hkept : t.configuration = s.configuration := by
    rcases step_cases h with ⟨-, rfl⟩ | ⟨-, rfl | he⟩
    · exact configuration_of_settings (fsmStep_settings s)
    · rfl
    · exact he.configuration hlc
  obtain ⟨hregs, hparams⟩ := Prod.mk.inj hkept
  obtain ⟨haddr, hkind, hretries, htimeout⟩ := Configuration.mk.inj hregs
  exact ⟨haddr, hretries, htimeout, hkind, hparams⟩

/-- The moves LC may make in one step (R32): it stays, or CONFIGURE opens it, or CLOSE closes it. -/
inductive LcMove : Lifecycle → Lifecycle → Prop
  | stays (l : Lifecycle) : LcMove l l
  | opens : LcMove .unconfigured .opened
  | closes : LcMove .opened .closed

/-- No move goes back. -/
theorem LcMove.forward {a b : Lifecycle} (h : LcMove a b) :
    (a = .unconfigured → b = .unconfigured ∨ b = .opened) ∧ (a = .opened → b = .opened ∨ b = .closed) ∧
      (a = .closed → b = .closed) := by
  cases h with
  | stays => exact ⟨Or.inl, Or.inl, id⟩
  | opens => exact ⟨fun _ => Or.inr rfl, nofun, nofun⟩
  | closes => exact ⟨nofun, fun _ => Or.inr rfl, nofun⟩

/-- LC is one of the settings. -/
theorem lcMove_of_settings {s t : State} (h : t.settings = s.settings) : LcMove s.lc t.lc := by
  obtain ⟨hlc, -⟩ := Settings.mk.inj h
  exact hlc ▸ .stays _

/-- What a request does to LC. -/
theorem Effect.lcMove {s t : State} (he : Effect s t) : LcMove s.lc t.lc := by
  cases he with
  | opened h => simpa [h] using LcMove.opens
  | closed h => simpa [h] using LcMove.closes
  | hosted hrun => exact lcMove_of_settings hrun.settings
  | refused | answered | rejected | openFailed => exact .stays _

/-- What a step does to LC. -/
theorem step_lcMove {s t : State} (h : step s = .next t) : LcMove s.lc t.lc := by
  rcases step_cases h with ⟨-, rfl⟩ | ⟨-, rfl | he⟩
  · exact lcMove_of_settings (fsmStep_settings s)
  · exact .stays _
  · exact he.lcMove

/-- No request clears REFUSED_MARK. -/
theorem Effect.refusedMark {s t : State} (he : Effect s t) (h : s.refusedMark = true) : t.refusedMark = true := by
  cases he with
  | refused r => rfl
  | hosted hrun => exact hrun.refusedMark h
  | answered | rejected | openFailed | opened | closed => exact h

/-- No step clears REFUSED_MARK (R48, R325). -/
theorem step_refusedMark {s t : State} (h : step s = .next t) (hm : s.refusedMark = true) : t.refusedMark = true := by
  rcases step_cases h with ⟨-, rfl⟩ | ⟨-, rfl | he⟩
  · exact (fsmStep_refusedMark s).trans hm
  · exact hm
  · exact he.refusedMark hm

/-- Settles O44: each move of LC is one of R32's. -/
theorem lifecycleMovesForward : Obligations.LifecycleMovesForward := by
  unfold Obligations.LifecycleMovesForward
  intro s t h
  obtain ⟨hunconfigured, hopened, hclosed⟩ := (step_lcMove h).forward
  exact ⟨hunconfigured, hopened, hclosed, step_refusedMark h⟩

/-! ### The invariant of the exchange controller -/

/-- In IDLE the invariant speaks of ATT, the retained error and OUT only. -/
theorem exchangeInv_of_idle {s : State} (hidle : s.fsm = .idle) (hfresh : s.lc = .unconfigured → s.att = 0)
    (hbound : s.att ≤ s.retries + 1) (hflag : s.lastPe = true → s.lastErr ≠ none)
    (hcause : s.lastErr ≠ some .shortFrame) (hout : ∀ info, s.out = .err info → info.reason ≠ .fallback) :
    ExchangeInv s where
  running_open h := absurd hidle h
  fresh := hfresh
  att_bound := hbound
  att_left h := by simp [hidle, receiving] at h
  req_built h := by simp [hidle, receiving, received] at h
  raw_current h := by simp [hidle, received] at h
  parse_long h := by simp [hidle] at h
  error_kept h := by simp [hidle, receiving, received] at h
  flag_error := hflag
  cause_long := hcause
  no_fallback := hout

/-- Settles O41: the controller is idle at power-up and no attempt was made. -/
theorem resetMeetsTheExchangeInvariant : Obligations.ResetMeetsTheExchangeInvariant :=
  exchangeInv_of_idle rfl (fun _ => rfl) (Nat.zero_le _) nofun nofun nofun

/-- A state of the receive phase is not IDLE. -/
theorem receiving_ne_idle {f : FsmState} (h : receiving f = true) : f ≠ .idle := by
  rintro rfl
  cases h

/-- Nor is it PARSE. -/
theorem receiving_ne_parse {f : FsmState} (h : receiving f = true) : f ≠ .parse := by
  rintro rfl
  cases h

namespace ExchangeInv

variable {s : State}

/-- A success ends the operation. -/
theorem succeed (h : ExchangeInv s) (v : OkValue) : ExchangeInv (s.succeed v) :=
  exchangeInv_of_idle rfl h.fresh h.att_bound h.flag_error h.cause_long nofun

/-- So does any error but FALLBACK. -/
theorem fail (h : ExchangeInv s) {info : Info} (hreason : info.reason ≠ .fallback) : ExchangeInv (s.fail info) :=
  exchangeInv_of_idle rfl h.fresh h.att_bound h.flag_error h.cause_long fun _ hout => Out.err.inj hout ▸ hreason

/-- A refusal writes OUT and the mark. -/
theorem refuse (h : ExchangeInv s) (r : RefusalReason) : ExchangeInv (s.refuse r) :=
  { h with no_fallback := nofun }

/-- The CRC register is none of the controller's. -/
theorem setCrc (h : ExchangeInv s) (x : Word16) : ExchangeInv { s with crc := x } := { h with }

/-- A transport call writes the environment's side only. -/
theorem callTransport (h : ExchangeInv s) (c : TransportCall) : ExchangeInv (s.callTransport c) := { h with }

/-- An I/O error ends the exchange. -/
theorem abort (h : ExchangeInv s) (c : TransportCall) {reason : Reason} (hreason : reason ≠ .fallback) (raw : Bytes) :
    ExchangeInv ((s.callTransport c).abort reason raw) :=
  (h.callTransport c).fail hreason

/-- The latch of EXCHANGE: no attempt is in progress yet. -/
theorem latchExchange (h : ExchangeInv s) (hlc : s.lc = .opened) (c : Int) (d : List Int) (m : Nat) :
    ExchangeInv (s.latchExchange c d m) :=
  { h with
    running_open := fun _ => hlc
    att_left := nofun
    req_built := nofun
    raw_current := nofun
    parse_long := nofun
    error_kept := nofun }

/-- From one state of the receive phase to another: RX, PENDING, the transmit stream and the count polled are free. -/
theorem receive (h : ExchangeInv s) (hs : receiving s.fsm = true) (c : TransportCall) {f : FsmState}
    (hf : receiving f = true) (p x r : Bytes) (n : Nat) :
    ExchangeInv { s.callTransport c with pending := p, tx := x, rx := r, availN := n, fsm := f } :=
  { h with
    running_open := fun _ => h.running_open (receiving_ne_idle hs)
    att_left := fun _ => h.att_left hs
    req_built := fun _ => h.req_built (by simp [hs])
    raw_current := fun hr => by cases f <;> simp [receiving, received] at hf hr
    parse_long := fun hp => absurd hp (receiving_ne_parse hf)
    error_kept := fun _ _ => h.error_kept (by simp [hs]) (receiving_ne_parse hs) }

/-- The end of the receive phase: LASTRAW becomes RX, and the attempt counted was one of RETRIES + 1. -/
theorem endReceive (h : ExchangeInv s) (hs : receiving s.fsm = true) : ExchangeInv s.endReceive :=
  have hopen : s.lc = .opened := h.running_open (receiving_ne_idle hs)
  { h with
    running_open := fun _ => hopen
    fresh := fun hlc => nomatch hopen.symm.trans hlc
    att_bound := Nat.succ_le_succ (h.att_left hs)
    att_left := nofun
    req_built := fun _ => h.req_built (by simp [hs])
    raw_current := fun _ => rfl
    parse_long := nofun
    error_kept := fun _ _ => h.error_kept (by simp [hs]) (receiving_ne_parse hs) }

/-- After an attempt that left its error, if it was a long one: another attempt, or the classification. -/
theorem nextAttempt (h : ExchangeInv s) (hs : received s.fsm = true) (herr : s.allShort = false → s.lastErr ≠ none) :
    ExchangeInv s.nextAttempt := by
  have hopen : s.lc = .opened := h.running_open (by rintro hidle; simp [hidle, received] at hs)
  have hbuilt := h.req_built (by simp [hs])
  rcases nextAttempt_cases s with ⟨hatt, he⟩ | ⟨-, he⟩ <;> rw [he]
  · exact { h with
      running_open := fun _ => hopen
      att_left := fun _ => hatt
      req_built := fun _ => hbuilt
      raw_current := nofun
      parse_long := nofun
      error_kept := fun _ _ => herr }
  · exact { h with
      running_open := fun _ => hopen
      att_left := nofun
      req_built := fun _ => hbuilt
      raw_current := fun _ => h.raw_current hs
      parse_long := nofun
      error_kept := fun _ _ => herr }

/-- A short attempt leaves LASTERR and clears LASTPE. -/
theorem noteShort (h : ExchangeInv s) : ExchangeInv s.noteShort := { h with flag_error := nofun }

/-- A long attempt that fails to parse leaves its error, which is no SHORT_FRAME. -/
theorem noteParseError (h : ExchangeInv s) {r : ParseReason} (hr : r ≠ .shortFrame) :
    ExchangeInv (s.noteParseError r) :=
  { h with
    error_kept := nofun
    flag_error := nofun
    cause_long := fun hc => hr (Option.some.inj hc) }

/-- BUILD starts with no attempt made and the frame built (R193). -/
theorem fsmBuild (h : ExchangeInv s) (hf : s.fsm = .build) : ExchangeInv (fsmBuild s) := by
  rcases fsmBuild_cases s with ⟨r, hr, he⟩ | ⟨f, hb, he⟩ <;> rw [he]
  · exact h.fail (by rcases buildRequest_error hr with rfl | rfl | rfl <;> simp)
  · exact { h with
      running_open := fun _ => h.running_open (by simp [hf])
      fresh := fun _ => rfl
      att_bound := Nat.zero_le _
      att_left := fun _ => Nat.zero_le _
      req_built := fun _ => hb
      raw_current := nofun
      parse_long := nofun
      error_kept := nofun
      flag_error := nofun
      cause_long := nofun }

/-- CHECK_LEN passes a string to PARSE only when it is long enough. -/
theorem fsmCheckLen (h : ExchangeInv s) (hf : s.fsm = .checkLen) : ExchangeInv (fsmCheckLen s) := by
  have hs : received s.fsm = true := by rw [hf]; rfl
  rcases fsmCheckLen_cases s with ⟨-, he⟩ | ⟨hlen, he⟩ <;> rw [he]
  · exact h.noteShort.nextAttempt hs (h.error_kept (by simp [hs]) (by simp [hf]))
  · exact { h with
      running_open := fun _ => h.running_open (by simp [hf])
      att_left := nofun
      req_built := fun _ => h.req_built (by simp [hs])
      raw_current := fun _ => h.raw_current hs
      parse_long := fun _ => hlen
      error_kept := fun _ hp => absurd rfl hp }

/-- PARSE ends the exchange, or retains an error that is no SHORT_FRAME (R174). -/
theorem fsmParse (h : ExchangeInv s) (hf : s.fsm = .parse) : ExchangeInv (fsmParse s) := by
  have hs : received s.fsm = true := by rw [hf]; rfl
  rcases fsmParse_cases s with ⟨a, rc, p, -, he⟩ | ⟨r, hr, he⟩ <;> rw [he, useCrcToParse_eq]
  · exact (h.setCrc _).succeed _
  · exact ((h.setCrc _).noteParseError (parseFrame_long (h.parse_long hf) hr)).nextAttempt hs nofun

/-- CLASSIFY never reaches FALLBACK: a long attempt left its error (R209). -/
theorem fsmClassify (h : ExchangeInv s) (hf : s.fsm = .classify) : ExchangeInv (fsmClassify s) := by
  obtain ⟨info, he, hreason⟩ := fsmClassify_cases s
  rw [he]
  refine h.fail fun hfallback => ?_
  have herr := h.error_kept (by simp [hf, received]) (by simp [hf])
  obtain ⟨hlong, hnone⟩ : s.allShort = false ∧ s.lastErr = none := by simpa [hfallback] using hreason
  exact herr hlong hnone

/-- Every transition of the exchange controller keeps the invariant. -/
theorem fsmStep (h : ExchangeInv s) : ExchangeInv (fsmStep s) := by
  unfold Machine.fsmStep
  cases hf : s.fsm with
  | idle => exact h
  | build => exact h.fsmBuild hf
  | discard =>
    have hs : receiving s.fsm = true := by rw [hf]; rfl
    rcases fsmDiscard_cases s with ⟨-, he⟩ | ⟨-, he⟩ <;> rw [he]
    · exact h.abort _ (by simp) _
    · exact h.receive hs _ rfl _ _ _ _
  | write =>
    have hs : receiving s.fsm = true := by rw [hf]; rfl
    rcases fsmWrite_cases s with ⟨-, he⟩ | ⟨-, he⟩ <;> rw [he]
    · exact h.abort _ (by simp) _
    · exact h.receive hs _ rfl _ _ _ _
  | readHead =>
    have hs : receiving s.fsm = true := by rw [hf]; rfl
    rcases fsmReadHead_cases s with ⟨-, he⟩ | ⟨-, k, -, -, he⟩ <;> rw [he]
    · exact h.abort _ (by simp) _
    · exact h.receive hs _ rfl _ _ _ _
  | pollAvail =>
    have hs : receiving s.fsm = true := by rw [hf]; rfl
    rcases fsmPollAvail_cases s with ⟨-, he⟩ | ⟨-, -, he⟩ | ⟨-, -, he⟩ <;> rw [he]
    · exact h.abort _ (by simp) _
    · exact h.receive hs _ rfl _ _ _ _
    · exact (h.receive hs _ hs _ _ _ _).endReceive hs
  | readTail =>
    have hs : receiving s.fsm = true := by rw [hf]; rfl
    rcases fsmReadTail_cases s with ⟨-, he⟩ | ⟨-, k, -, -, he⟩ <;> rw [he]
    · exact h.abort _ (by simp) _
    · exact (h.receive hs _ hs _ _ _ _).endReceive hs
  | checkLen => exact h.fsmCheckLen hf
  | parse => exact h.fsmParse hf
  | classify => exact h.fsmClassify hf

/-- So does EXCHANGE, refused or run. -/
theorem exchange (h : ExchangeInv s) (c : Int) (d : List Int) (m : Nat) : ExchangeInv (exchange c d m s) :=
  exchange_keeps (fun _ r ht => ht.refuse r) (fun _ c d m _ hlc ht => ht.latchExchange hlc c d m)
    (fun _ _ ht => ht.fsmStep) c d m h

/-- And every request the host can present. CONFIGURE meets an ATT of 0, so RETRIES may take any value. -/
theorem effect {t : State} (h : ExchangeInv s) (he : Effect s t) : ExchangeInv t := by
  cases he with
  | refused r => exact h.refuse r
  | answered x v => exact (h.setCrc x).succeed v
  | rejected x info hreason => exact (h.setCrc x).fail hreason
  | openFailed hlc k p => exact (h.callTransport _).fail nofun
  | opened hlc c p =>
    have hatt : s.att ≤ c.retries + 1 := by simp [h.fresh hlc]
    exact exchangeInv_of_idle rfl nofun hatt h.flag_error h.cause_long nofun
  | closed hlc => exact exchangeInv_of_idle rfl nofun h.att_bound h.flag_error h.cause_long nofun
  | hosted hrun => exact hrun.keeps (fun _ c d m hu => hu.exchange c d m) (fun _ _ hu => { hu with }) h

end ExchangeInv

/-- Settles O42: each transition of the exchange controller keeps the invariant, and so does each request. -/
theorem stepKeepsTheExchangeInvariant : Obligations.StepKeepsTheExchangeInvariant := by
  unfold Obligations.StepKeepsTheExchangeInvariant
  intro s t hinv h
  rcases step_cases h with ⟨-, rfl⟩ | ⟨-, rfl | he⟩
  · exact hinv.fsmStep
  · exact hinv
  · have hpop : ExchangeInv s.popRequest := { hinv with }
    exact hpop.effect he

/-! ### Dispatch and power-up -/

/-- A request that decodes to an operation presents it. -/
theorem fetchRequest_of_decode_ok {r : Request} {i : Instr} (h : decode r = .ok i) : fetchRequest r = .operation i := by
  cases r with
  | sequence q => cases h
  | transaction bs => simp [fetchRequest, h]
  | wire f => simp [fetchRequest, h]
  | call j => simp [fetchRequest, h]

/-- In IDLE the operation in front is run. -/
theorem step_of_operation {s : State} {i : Instr} (hidle : s.fsm = .idle) (h : fetch s = .operation i) :
    step s = exec i s.popRequest := by
  simp [step, hidle, h]

/-- In IDLE the sequence in front is run. -/
theorem step_of_sequence {s : State} {q : Sequence} (hidle : s.fsm = .idle) (h : fetch s = .sequence q) :
    step s = .next (runSequence q s.popRequest) := by
  simp [step, hidle, h]

/-- In IDLE without a request nothing happens (R339). -/
theorem step_of_nothing {s : State} (hidle : s.fsm = .idle) (h : fetch s = .nothing) : step s = .next s := by
  simp [step, hidle, h]

/-- A running exchange makes one transition. -/
theorem step_of_running {s : State} (hrun : s.fsm ≠ .idle) : step s = .next (fsmStep s) := by
  simp [step, hrun]

/-- Settles O5: what is fetched decides which branch the step takes. -/
theorem stepRunsTheDecodedOperation : Obligations.StepRunsTheDecodedOperation := by
  unfold Obligations.StepRunsTheDecodedOperation
  refine ⟨fun s r rest i hidle hreq hdec => ?_, fun s q rest hidle hreq => ?_, fun s hidle hreq => ?_,
    fun s hrun => step_of_running hrun⟩
  · have hfetch : fetch s = .operation i := by rw [fetch_of_requests hreq, fetchRequest_of_decode_ok hdec]
    rw [step_of_operation hidle hfetch, popRequest_of_requests hreq]
  · have hfetch : fetch s = .sequence q := fetch_of_requests hreq
    rw [step_of_sequence hidle hfetch, popRequest_of_requests hreq]
  · exact step_of_nothing hidle (by simp [fetch, hreq])

/-- Settles O17: the values State.reset writes. -/
theorem resetIsPowerUp : Obligations.ResetIsPowerUp :=
  ⟨rfl, rfl, rfl, rfl, rfl⟩

/-! ### The pure operations in IDLE -/

/-- In IDLE a success writes OUT only. -/
theorem succeed_of_idle {s : State} (hidle : s.fsm = .idle) (v : OkValue) : s.succeed v = { s with out := .ok v } := by
  simp [State.succeed, ← hidle]

/-- In IDLE an error writes OUT only. -/
theorem fail_of_idle {s : State} (hidle : s.fsm = .idle) (info : Info) : s.fail info = { s with out := .err info } := by
  simp [State.fail, ← hidle]

/-- Settles O10: in IDLE CHECKSUM runs, and writes CRC and OUT. -/
theorem checksumAnswersTheCrc : Obligations.ChecksumAnswersTheCrc := by
  unfold Obligations.ChecksumAnswersTheCrc
  intro s b hidle
  have hrun : exec (.checksum b) s = .next (runChecksum b s) := congrArg _ (whenIdle_of_idle hidle _)
  rw [hrun, runChecksum, succeed_of_idle (s := s.useCrc b) hidle]
  rfl

/-! ### PARSE -/

/-- The 16-bit value of two bytes, as a number (R102). -/
theorem le16_toNat (lo hi : Byte) : (le16 lo hi).toNat = lo.toNat + 256 * hi.toNat := by
  have hlo : lo.toNat < 2 ^ 8 := lo.isLt
  have hhi : hi.toNat < 2 ^ 8 := hi.isLt
  have hor : hi.toNat <<< 8 + lo.toNat = hi.toNat <<< 8 ||| lo.toNat := Nat.shiftLeft_add_eq_or_of_lt hlo _
  rw [le16, BitVec.toNat_or, BitVec.toNat_shiftLeft, BitVec.toNat_setWidth, BitVec.toNat_setWidth,
    Nat.mod_eq_of_lt (by omega : lo.toNat < 2 ^ 16), Nat.mod_eq_of_lt (by omega : hi.toNat < 2 ^ 16),
    Nat.mod_eq_of_lt (by rw [Nat.shiftLeft_eq]; omega), Nat.or_comm, ← hor, Nat.shiftLeft_eq]
  omega

/-- A string carries the CRC of its front part when its last two bytes are that CRC, the low one first. -/
theorem storedCrc_eq_iff (f : Bytes) :
    storedCrc f = crc16 (checkedPart f) ↔
      (f.getD (f.length - 2) 0).toNat + 256 * (f.getD (f.length - 1) 0).toNat =
        (crc16 (f.take (f.length - 2))).toNat := by
  rw [← BitVec.toNat_inj, storedCrc, le16_toNat, checkedPart]

/-- The payload stands between the first two bytes and the last two (R103). -/
theorem payload_eq (f : Bytes) : payload f = (f.drop 2).take (f.length - 4) := by
  rw [payload, checkedPart, List.drop_take, Nat.sub_sub]

/-- The address expected is met by its own byte, and an absent one by every byte (R170). -/
theorem addressMatches_iff (b : Byte) (e : Option Int) :
    addressMatches b e = true ↔ e = none ∨ e = some (b.toNat : Int) := by
  cases e <;> simp [addressMatches, eq_comm]

/-- The length check comes first. -/
theorem parseFrame_short {f : Bytes} (hlen : f.length < Config.minFrame) (e : Option Int) :
    parseFrame f e = .error .shortFrame :=
  if_pos hlen

/-- Then the CRC check. -/
theorem parseFrame_badCrc {f : Bytes} (hlen : Config.minFrame ≤ f.length) (hcrc : storedCrc f ≠ crc16 (checkedPart f))
    (e : Option Int) : parseFrame f e = .error .badCrc := by
  rw [parseFrame, if_neg (Nat.not_lt.2 hlen), if_pos hcrc]

/-- Then the address check, and a string that passes all three is split (R170, R171). -/
theorem parseFrame_of_crc {f : Bytes} (hlen : Config.minFrame ≤ f.length) (hcrc : storedCrc f = crc16 (checkedPart f))
    (e : Option Int) :
    parseFrame f e =
      if addressMatches (f.getD 0 0) e then .ok (f.getD 0 0, f.getD 1 0, payload f) else .error .addrMismatch := by
  rw [parseFrame, if_neg (Nat.not_lt.2 hlen), if_neg (not_not.2 hcrc)]

/-- A string too short for the CRC check leaves the CRC register (log 11). -/
theorem useCrcToParse_crc_short (s : State) {f : Bytes} (hlen : f.length < Config.minFrame) :
    (s.useCrcToParse f).crc = s.crc := by
  rw [useCrcToParse_eq]
  exact if_pos hlen

/-- A longer one leaves its computed CRC there (log 11). -/
theorem useCrcToParse_crc_long (s : State) {f : Bytes} (hlen : Config.minFrame ≤ f.length) :
    (s.useCrcToParse f).crc = crc16 (checkedPart f) := by
  rw [useCrcToParse_eq]
  exact if_neg (Nat.not_lt.2 hlen)

/-- In IDLE PARSE of a bad string writes OUT and CRC. -/
theorem exec_parse_of_error {s : State} {f : Bytes} {e : Option Int} {r : ParseReason} (hidle : s.fsm = .idle)
    (h : parseFrame f e = .error r) :
    exec (.parse f e) s =
      .next { s with out := .err { reason := r.toReason, raw := some f }, crc := (s.useCrcToParse f).crc } := by
  have hrun : exec (.parse f e) s = .next (runParse f e s) := congrArg _ (whenIdle_of_idle hidle _)
  simp only [hrun, runParse, h, useCrcToParse_eq]
  exact congrArg _ (fail_of_idle (by exact hidle) _)

/-- In IDLE PARSE of a good frame writes OUT and CRC. -/
theorem exec_parse_of_ok {s : State} {f : Bytes} {e : Option Int} {a c : Byte} {p : Bytes} (hidle : s.fsm = .idle)
    (h : parseFrame f e = .ok (a, c, p)) :
    exec (.parse f e) s = .next { s with out := .ok (.parsed a c p), crc := (s.useCrcToParse f).crc } := by
  have hrun : exec (.parse f e) s = .next (runParse f e s) := congrArg _ (whenIdle_of_idle hidle _)
  simp only [hrun, runParse, h, useCrcToParse_eq]
  exact congrArg _ (succeed_of_idle (by exact hidle) _)

/-- Settles O14: the three checks of parseFrame in their order, and what PARSE makes of each answer. -/
theorem parseMakesItsThreeChecks : Obligations.ParseMakesItsThreeChecks := by
  unfold Obligations.ParseMakesItsThreeChecks
  intro s f e hidle
  refine ⟨fun hlen => ?_, fun hlen hcrc => ?_, fun hlen hcrc he => ?_, fun hlen hcrc he => ?_⟩
  · rw [exec_parse_of_error hidle (parseFrame_short hlen e), useCrcToParse_crc_short s hlen]
    rfl
  · have hbad : storedCrc f ≠ crc16 (checkedPart f) := mt (storedCrc_eq_iff f).1 hcrc
    rw [exec_parse_of_error hidle (parseFrame_badCrc hlen hbad e), useCrcToParse_crc_long s hlen]
    rfl
  · have hother : ¬addressMatches (f.getD 0 0) e = true := by
      obtain ⟨z, rfl, hz⟩ := he
      simpa [addressMatches_iff] using hz
    have hparse := parseFrame_of_crc hlen ((storedCrc_eq_iff f).2 hcrc) e
    rw [if_neg hother] at hparse
    rw [exec_parse_of_error hidle hparse, useCrcToParse_crc_long s hlen]
    rfl
  · have hparse := parseFrame_of_crc hlen ((storedCrc_eq_iff f).2 hcrc) e
    rw [if_pos ((addressMatches_iff _ e).2 he), payload_eq] at hparse
    rw [exec_parse_of_ok hidle hparse, useCrcToParse_crc_long s hlen]
    rfl

end Sys2Proof.Machine

/-! # The streams of the transport and the primitives that move them (O45, O27, O28) -/

namespace Sys2Proof.Machine

open Sys2Proof

/-! ### What is appended stays -/

/-- From `s` to `t` the transmit stream and the record of calls are only appended to (R71; log 23). -/
def StreamsGrow (s t : State) : Prop := s.tx <+: t.tx ∧ s.calls <+: t.calls

theorem StreamsGrow.refl (s : State) : StreamsGrow s s := ⟨List.prefix_rfl, List.prefix_rfl⟩

theorem StreamsGrow.trans {s t u : State} (hst : StreamsGrow s t) (htu : StreamsGrow t u) : StreamsGrow s u :=
  ⟨hst.1.trans htu.1, hst.2.trans htu.2⟩

/-- A state that kept the transmit stream and made one call more, which is what a call that fails leaves (R203). -/
theorem streamsGrow_of_call {s t : State} (c : TransportCall) (htx : t.tx = s.tx) (hcalls : t.calls = s.calls ++ [c]) :
    StreamsGrow s t :=
  ⟨htx ▸ List.prefix_rfl, hcalls ▸ List.prefix_append _ _⟩

/-- A state in which neither of the two was written. -/
theorem streamsGrow_of_eq {s t : State} (htx : t.tx = s.tx) (hcalls : t.calls = s.calls) : StreamsGrow s t :=
  ⟨htx ▸ List.prefix_rfl, hcalls ▸ List.prefix_rfl⟩

/-- A transition appends at most: only WRITE writes the transmit stream, and each primitive records its one call. -/
theorem fsmStep_streamsGrow (s : State) : StreamsGrow s (fsmStep s) := by
  unfold fsmStep
  cases s.fsm with
  | idle => exact .refl s
  | build => rcases fsmBuild_cases s with ⟨r, -, h⟩ | ⟨f, -, h⟩ <;> exact h ▸ streamsGrow_of_eq rfl rfl
  | discard => rcases fsmDiscard_cases s with ⟨-, h⟩ | ⟨-, h⟩ <;> exact h ▸ streamsGrow_of_call .discard rfl rfl
  | write =>
    rcases fsmWrite_cases s with ⟨-, h⟩ | ⟨-, h⟩ <;> rw [h]
    · exact streamsGrow_of_call (.write s.req) rfl rfl
    · exact ⟨List.prefix_append _ _, List.prefix_append _ _⟩
  | readHead =>
    rcases fsmReadHead_cases s with ⟨-, h⟩ | ⟨-, k, -, -, h⟩ <;> exact h ▸ streamsGrow_of_call (.read s.minlen) rfl rfl
  | pollAvail =>
    rcases fsmPollAvail_cases s with ⟨-, h⟩ | ⟨-, -, h⟩ | ⟨-, -, h⟩ <;> exact h ▸ streamsGrow_of_call .avail rfl rfl
  | readTail =>
    rcases fsmReadTail_cases s with ⟨-, h⟩ | ⟨-, k, -, -, h⟩ <;> exact h ▸ streamsGrow_of_call (.read s.availN) rfl rfl
  | checkLen => rcases fsmCheckLen_cases s with ⟨-, h⟩ | ⟨-, h⟩ <;> exact h ▸ streamsGrow_of_eq rfl rfl
  | parse =>
    rcases fsmParse_cases s with ⟨a, rc, p, -, h⟩ | ⟨r, -, h⟩ <;> rw [h, useCrcToParse_eq] <;>
      exact streamsGrow_of_eq rfl rfl
  | classify =>
    obtain ⟨info, h, -⟩ := fsmClassify_cases s
    exact h ▸ streamsGrow_of_eq rfl rfl

/-- EXCHANGE, refused or run, appends at most. -/
theorem exchange_streamsGrow (c : Int) (d : List Int) (m : Nat) (s : State) : StreamsGrow s (exchange c d m s) :=
  exchange_keeps (P := StreamsGrow s) (fun _ _ h => h) (fun _ _ _ _ _ _ h => h)
    (fun t _ h => h.trans (fsmStep_streamsGrow t)) c d m (.refl s)

/-- So does a run of the host's moves. -/
theorem HostRun.streamsGrow {s t : State} (hrun : HostRun s t) : StreamsGrow s t :=
  hrun.keeps (P := StreamsGrow s) (fun u c d m h => h.trans (exchange_streamsGrow c d m u)) (fun _ _ h => h) (.refl s)

/-- So does every request: CONFIGURE's open and CLOSE's release are each one call. -/
theorem Effect.streamsGrow {s t : State} (he : Effect s t) : StreamsGrow s t := by
  cases he with
  | refused | answered | rejected => exact streamsGrow_of_eq rfl rfl
  | openFailed _ k p => exact streamsGrow_of_call (.connect k p) rfl rfl
  | opened _ c p => exact streamsGrow_of_call (.connect c.kind p) rfl rfl
  | closed => exact streamsGrow_of_call .release rfl rfl
  | hosted hrun => exact hrun.streamsGrow

/-- Settles O45: each transition of the exchange controller appends at most, and so does each request. -/
theorem transmitStreamOnlyGrows : Obligations.TransmitStreamOnlyGrows := by
  unfold Obligations.TransmitStreamOnlyGrows
  intro s t h
  rcases step_cases h with ⟨-, rfl⟩ | ⟨-, rfl | he⟩
  · exact fsmStep_streamsGrow s
  · exact StreamsGrow.refl _
  · exact he.streamsGrow

/-! ### Which transition runs -/

theorem fsmStep_of_discard {s : State} (hf : s.fsm = .discard) : fsmStep s = fsmDiscard s := by simp [fsmStep, hf]

theorem fsmStep_of_write {s : State} (hf : s.fsm = .write) : fsmStep s = fsmWrite s := by simp [fsmStep, hf]

theorem fsmStep_of_readHead {s : State} (hf : s.fsm = .readHead) : fsmStep s = fsmReadHead s := by simp [fsmStep, hf]

theorem fsmStep_of_pollAvail {s : State} (hf : s.fsm = .pollAvail) : fsmStep s = fsmPollAvail s := by simp [fsmStep, hf]

theorem fsmStep_of_readTail {s : State} (hf : s.fsm = .readTail) : fsmStep s = fsmReadTail s := by simp [fsmStep, hf]

/-! ### How many bytes a read takes -/

/-- A read loses and reorders no byte (R75). -/
theorem splitRead_append (n max : Nat) (pending : Bytes) :
    (splitRead n max pending).1 ++ (splitRead n max pending).2 = pending :=
  List.take_append_drop _ _

/-- A read takes the number drawn, cut to its maximum and to what is pending (R75). -/
theorem splitRead_fst_length (n max : Nat) (pending : Bytes) :
    (splitRead n max pending).1.length = min n (min max pending.length) := by
  simp only [splitRead, List.length_take]
  omega

/-- A `T.read` that does not fail, with the exact count of bytes. -/
theorem transportRead_of_ok {s : State} (hok : s.nextDraw.fails = false) (max : Nat) :
    transportRead max s =
      .returned (splitRead s.nextDraw.count max (s.pending ++ s.nextDraw.arrivals)).1
        { s.callTransport (.read max) with
          pending := (splitRead s.nextDraw.count max (s.pending ++ s.nextDraw.arrivals)).2 } := by
  simp [transportRead, hok, readLength, splitRead]

/-- READ_HEAD that does not fail, with the exact count of bytes (R199). -/
theorem fsmReadHead_of_ok {s : State} (hok : s.nextDraw.fails = false) :
    fsmReadHead s = { s.callTransport (.read s.minlen) with
      pending := (splitRead s.nextDraw.count s.minlen (s.pending ++ s.nextDraw.arrivals)).2
      rx := (splitRead s.nextDraw.count s.minlen (s.pending ++ s.nextDraw.arrivals)).1
      fsm := .pollAvail } := by
  rw [fsmReadHead, transportRead_of_ok hok]

/-- READ_TAIL that does not fail, with the exact count of bytes (R199). -/
theorem fsmReadTail_of_ok {s : State} (hok : s.nextDraw.fails = false) :
    fsmReadTail s = ({ s.callTransport (.read s.availN) with
      pending := (splitRead s.nextDraw.count s.availN (s.pending ++ s.nextDraw.arrivals)).2
      rx := s.rx ++ (splitRead s.nextDraw.count s.availN (s.pending ++ s.nextDraw.arrivals)).1 }).endReceive := by
  rw [fsmReadTail, transportRead_of_ok hok]
  rfl

/-! ### The primitives of a running exchange -/

/-- Settles O27: the cases of each transition in which the environment's answer is no I/O error. -/
theorem primitivesMoveBytesAndRegisters : Obligations.PrimitivesMoveBytesAndRegisters := by
  unfold Obligations.PrimitivesMoveBytesAndRegisters
  intro s hok
  refine ⟨fun hf => ?_, fun hf => ?_, fun hf => ?_, fun hf hpos => ?_, fun hf hzero => ?_, fun hf => ?_⟩
  · obtain ⟨-, h⟩ := (fsmDiscard_cases s).resolve_left (by simp [hok])
    rw [fsmStep_of_discard hf, h]
    rfl
  · obtain ⟨-, h⟩ := (fsmWrite_cases s).resolve_left (by simp [hok])
    rw [fsmStep_of_write hf, h]
    rfl
  · refine ⟨_, _, splitRead_append s.nextDraw.count s.minlen _, ?_, ?_⟩
    · rw [splitRead_append, splitRead_fst_length]
    · rw [fsmStep_of_readHead hf, fsmReadHead_of_ok hok]
      rfl
  · obtain ⟨-, -, h⟩ := ((fsmPollAvail_cases s).resolve_left (by simp [hok])).resolve_right (by simp [hpos.ne'])
    rw [fsmStep_of_pollAvail hf, h]
    rfl
  · obtain ⟨-, -, h⟩ := ((fsmPollAvail_cases s).resolve_left (by simp [hok])).resolve_left (by simp [hzero])
    rw [fsmStep_of_pollAvail hf, h]
    rfl
  · refine ⟨_, _, splitRead_append s.nextDraw.count s.availN _, ?_, ?_⟩
    · rw [splitRead_append, splitRead_fst_length]
    · rw [fsmStep_of_readTail hf, fsmReadTail_of_ok hok]
      rfl

/-- Settles O28: the case of each transition in which the environment's answer is an I/O error. -/
theorem ioErrorEndsTheExchange : Obligations.IoErrorEndsTheExchange := by
  unfold Obligations.IoErrorEndsTheExchange
  intro s reason raw call hfails hcase
  rcases hcase with ⟨hf, rfl, rfl, rfl⟩ | ⟨hf, rfl, rfl, rfl⟩ | ⟨hf, rfl, rfl, rfl⟩ | ⟨hf, rfl, rfl, rfl⟩ |
    ⟨hf, rfl, rfl, rfl⟩
  · obtain ⟨-, h⟩ := (fsmDiscard_cases s).resolve_right (by simp [hfails])
    rw [fsmStep_of_discard hf, h]
    rfl
  · obtain ⟨-, h⟩ := (fsmWrite_cases s).resolve_right (by simp [hfails])
    rw [fsmStep_of_write hf, h]
    rfl
  · obtain ⟨-, h⟩ := (fsmReadHead_cases s).resolve_right (by simp [hfails])
    rw [fsmStep_of_readHead hf, h]
    rfl
  · obtain ⟨-, h⟩ := (fsmPollAvail_cases s).resolve_right (by simp [hfails])
    rw [fsmStep_of_pollAvail hf, h]
    rfl
  · obtain ⟨-, h⟩ := (fsmReadTail_cases s).resolve_right (by simp [hfails])
    rw [fsmStep_of_readTail hf, h]
    rfl

end Sys2Proof.Machine

/-! # Encoding: HOSTOP transactions and their operands (O1, O25) -/

namespace Sys2Proof

open Sys2Proof.Machine

/-! ### Sequencing in the decoder -/

@[simp] theorem ok_bind {ε α β : Type} (a : α) (k : α → Except ε β) : (Except.ok a >>= k) = k a := rfl

@[simp] theorem pure_eq_ok {ε α : Type} (a : α) : (pure a : Except ε α) = .ok a := rfl

/-- A sequence of readers that succeeds comes apart into readers that succeed. -/
theorem bind_eq_ok {ε α β : Type} {x : Except ε α} {k : α → Except ε β} {b : β} :
    x >>= k = .ok b ↔ ∃ a, x = .ok a ∧ k a = .ok b := by
  cases x with
  | error e => exact iff_of_false nofun (fun ⟨_, h, _⟩ => nomatch h)
  | ok a => simp

/-! ### Operands: each reader gives back what its writer wrote, and the bytes after it (log 2) -/

theorem getNat_putNatFuel {fuel n : Nat} (h : n ≤ fuel) (rest : Bytes) :
    getNat (putNatFuel fuel n ++ rest) = .ok (n, rest) := by
  induction fuel generalizing n with
  | zero =>
    obtain rfl : n = 0 := Nat.le_zero.1 h
    rfl
  | succ k ih =>
    by_cases hlast : n < 128
    · simp [putNatFuel, getNat, hlast, Nat.mod_eq_of_lt (by omega : n < 256)]
    · have hgroup : (BitVec.ofNat 8 (128 + n % 128)).toNat = 128 + n % 128 := Nat.mod_eq_of_lt (by omega)
      simp only [putNatFuel, if_neg hlast, List.cons_append, getNat, hgroup, ih (by omega : n / 128 ≤ k)]
      rw [if_neg (by omega), Nat.add_sub_cancel_left, Nat.mod_add_div]

@[simp] theorem getNat_putNat (n : Nat) (rest : Bytes) : getNat (putNat n ++ rest) = .ok (n, rest) :=
  getNat_putNatFuel le_rfl rest

@[simp] theorem getInt_putInt (z : Int) (rest : Bytes) : getInt (putInt z ++ rest) = .ok (z, rest) := by
  cases z with
  | ofNat n => simp [putInt, getInt]
  | negSucc n =>
    have hhalf : (2 * n + 1) / 2 = n := by omega
    simp [putInt, getInt, hhalf]

@[simp] theorem getBytes_putBytes (s rest : Bytes) : getBytes (putBytes s ++ rest) = .ok (s, rest) := by
  simp [putBytes, getBytes]

@[simp] theorem getIntList_putIntList (d : List Int) (rest : Bytes) :
    getIntList d.length (putIntList d ++ rest) = .ok (d, rest) := by
  induction d with
  | nil => rfl
  | cons z d ih => simp [putIntList, getIntList, ih]

@[simp] theorem getInts_putInts (d : List Int) (rest : Bytes) : getInts (putInts d ++ rest) = .ok (d, rest) := by
  simp [putInts, getInts]

@[simp] theorem getRat_putRat (q : Rat) (rest : Bytes) : getRat (putRat q ++ rest) = .ok (q, rest) := by
  have hden : q.den - 1 + 1 = q.den := Nat.sub_add_cancel q.den_pos
  simp [putRat, getRat, hden, Rat.mkRat_self]

@[simp] theorem getTag_cons (b : Byte) (rest : Bytes) : getTag (b :: rest) = .ok (b.toNat, rest) := rfl

@[simp] theorem getHostValue_putHostValue (v : HostValue) (rest : Bytes) :
    getHostValue (putHostValue v ++ rest) = .ok (v, rest) := by
  cases v <;> simp [putHostValue, getHostValue]

@[simp] theorem getKind_putKind (k : KindArg) (rest : Bytes) : getKind (putKind k ++ rest) = .ok (k, rest) := by
  cases k <;> simp [putKind, getKind]

@[simp] theorem getParams_putParams (p : OpenParams) (rest : Bytes) :
    getParams (putParams p ++ rest) = .ok (p, rest) := by
  cases p <;> simp [putParams, getParams]

@[simp] theorem getOptInt_putOptInt (e : Option Int) (rest : Bytes) :
    getOptInt (putOptInt e ++ rest) = .ok (e, rest) := by
  cases e <;> simp [putOptInt, getOptInt]

/-! ### Transactions -/

/-- A transaction is an operation whose operands take all its bytes. -/
theorem decodeTransaction_eq_ok (op : Byte) (args : Bytes) (i : Instr) :
    decodeTransaction (op :: args) = .ok i ↔ readOperation op.toNat args = .ok (i, []) := by
  simp only [decodeTransaction]
  cases readOperation op.toNat args with
  | error e => simp
  | ok x => by_cases hr : x.2 = [] <;> simp [hr, Prod.ext_iff]

/-- A reader that leaves whatever follows the operands leaves nothing when nothing follows. -/
theorem decodeTransaction_of_readOperation {op : Byte} {args : Bytes} {i : Instr}
    (h : ∀ rest, readOperation op.toNat (args ++ rest) = .ok (i, rest)) : decodeTransaction (op :: args) = .ok i :=
  (decodeTransaction_eq_ok op args i).2 (by simpa using h [])

/-- An unassigned code takes every byte after it (R113; log 25). -/
theorem readOperation_of_unassigned {op : Nat} (h : op = 0 ∨ 7 ≤ op) (args : Bytes) :
    readOperation op args = .ok (.reservedOp (BitVec.ofNat 8 op), []) := by
  unfold readOperation
  split
  iterate 6 omega
  rfl

/-- No other code is read as an unassigned one. -/
theorem unassigned_of_readOperation {op : Nat} {args rest : Bytes} {c : Byte}
    (h : readOperation op args = .ok (.reservedOp c, rest)) : (op = 0 ∨ 7 ≤ op) ∧ c = BitVec.ofNat 8 op := by
  by_cases hun : op = 0 ∨ 7 ≤ op
  · rw [readOperation_of_unassigned hun] at h
    cases h
    exact ⟨hun, rfl⟩
  · obtain ⟨hlo, hhi⟩ : 1 ≤ op ∧ op ≤ 6 := by omega
    interval_cases op <;> simp [readOperation, bind_eq_ok] at h

theorem decodeTransaction_of_unassigned {code : Byte} (h : code.toNat = 0 ∨ 7 ≤ code.toNat) (args : Bytes) :
    decodeTransaction (code :: args) = .ok (.reservedOp code) := by
  simp [decodeTransaction_eq_ok, readOperation_of_unassigned h]

/-- Settles O1: the reader of each op code reads the operands back one after another; an unassigned code has none. -/
theorem transactionDecodesItsEncoding : Obligations.TransactionDecodesItsEncoding := by
  unfold Obligations.TransactionDecodesItsEncoding
  intro i bs hwf henc
  cases i with
  | configure | checksum | build | parse | exchange | close =>
    cases henc
    exact decodeTransaction_of_readOperation fun rest => by simp [readOperation]
  | reservedOp code =>
    cases henc
    exact decodeTransaction_of_unassigned (by simpa [Instr.wellFormed, unassigned] using hwf) []
  | testLink | openSession | readEnergy | readInfo | readRatios | readVersion | readNetaddr | unlockArchive =>
    cases henc

/-- Settles O25: the reader tells the unassigned codes from the six assigned ones, and RESERVED_OP is one refusal. -/
theorem unassignedCodeIsRefused : Obligations.UnassignedCodeIsRefused := by
  unfold Obligations.UnassignedCodeIsRefused
  refine ⟨fun code rest h => decodeTransaction_of_unassigned h rest, fun code c rest h => ?_, fun s code => rfl⟩
  obtain ⟨hun, hc⟩ := unassigned_of_readOperation ((decodeTransaction_eq_ok code rest _).1 h)
  exact ⟨by simpa using hc, hun⟩

end Sys2Proof

/-! # Encoding: frames and the codes of outcomes (O11, O15, O18) -/

namespace Sys2Proof.Machine

open Sys2Proof

/-! ### The two bytes of a CRC (R102, R143) -/

theorem le16_crcBytes (v : Word16) : le16 (lowByte v) (highByte v) = v := by
  apply BitVec.eq_of_toNat_eq
  simp [le16_toNat, lowByte, highByte, Nat.shiftRight_eq_div_pow]
  omega

theorem lowByte_le16 (lo hi : Byte) : lowByte (le16 lo hi) = lo := by
  apply BitVec.eq_of_toNat_eq
  simp [lowByte, le16_toNat, lo.isLt]

theorem highByte_le16 (lo hi : Byte) : highByte (le16 lo hi) = hi := by
  apply BitVec.eq_of_toNat_eq
  simp [highByte, le16_toNat, Nat.shiftRight_eq_div_pow]
  omega

/-- Two bytes are read as a value exactly when they are the value's bytes. -/
theorem le16_eq_iff (lo hi : Byte) (v : Word16) : le16 lo hi = v ↔ [lo, hi] = crcBytes v := by
  constructor
  · rintro rfl
    rw [crcBytes, lowByte_le16, highByte_le16]
  · intro h
    cases h
    exact le16_crcBytes v

/-- The value of two bytes is that of the low one alone exactly when the high one is 0. -/
theorem le16_eq_setWidth_iff (lo hi : Byte) : le16 lo hi = lo.setWidth 16 ↔ hi = 0 := by
  rw [← BitVec.toNat_inj, ← BitVec.toNat_inj, le16_toNat]
  simp
  omega

theorem crcBytes_eq_ofNat (v : Word16) :
    crcBytes v = [BitVec.ofNat 8 (v.toNat % 256), BitVec.ofNat 8 (v.toNat / 256)] := by
  have hlow : lowByte v = BitVec.ofNat 8 (v.toNat % 256) := BitVec.eq_of_toNat_eq (by simp [lowByte])
  have hhigh : highByte v = BitVec.ofNat 8 (v.toNat / 256) :=
    BitVec.eq_of_toNat_eq (by simp [highByte, Nat.shiftRight_eq_div_pow])
  rw [crcBytes, hlow, hhigh]

/-! ### The strings PARSE accepts -/

/-- PARSE of a body and two more bytes: they are its CRC, or not (R102, R170). -/
theorem parseFrame_append_two (a c : Byte) (d : Bytes) (lo hi : Byte) (e : Option Int) :
    parseFrame (frameBody a c d ++ [lo, hi]) e =
      if [lo, hi] = crcBytes (crc16 (frameBody a c d)) then
        if addressMatches a e then .ok (a, c, d) else .error .addrMismatch
      else .error .badCrc := by
  have hlen : Config.minFrame ≤ (frameBody a c d ++ [lo, hi]).length := by simp [Config.minFrame, frameBody]
  have hchecked : checkedPart (frameBody a c d ++ [lo, hi]) = frameBody a c d := by simp [checkedPart]
  have hstored : storedCrc (frameBody a c d ++ [lo, hi]) = le16 lo hi := by simp [storedCrc]
  have hiff : storedCrc (frameBody a c d ++ [lo, hi]) = crc16 (checkedPart (frameBody a c d ++ [lo, hi])) ↔
      [lo, hi] = crcBytes (crc16 (frameBody a c d)) := by
    rw [hstored, hchecked, le16_eq_iff]
  by_cases hcrc : [lo, hi] = crcBytes (crc16 (frameBody a c d))
  · rw [if_pos hcrc, parseFrame_of_crc hlen (hiff.2 hcrc), payload, hchecked]
    rfl
  · rw [if_neg hcrc, parseFrame_badCrc hlen (mt hiff.1 hcrc)]

/-- PARSE of a frame looks at the address alone. -/
theorem parseFrame_frame (a c : Byte) (d : Bytes) (e : Option Int) :
    parseFrame (frame a c d) e = if addressMatches a e then .ok (a, c, d) else .error .addrMismatch :=
  (parseFrame_append_two a c d _ _ e).trans (if_pos rfl)

/-- A string of at least four bytes is a body and two more bytes. -/
theorem exists_body_of_long {f : Bytes} (h : Config.minFrame ≤ f.length) :
    ∃ a c d lo hi, f = frameBody a c d ++ [lo, hi] := by
  obtain ⟨a, c, g, rfl⟩ : ∃ a c g, f = a :: c :: g := by
    match f, h with
    | a :: c :: g, _ => exact ⟨a, c, g, rfl⟩
  have hg : 2 ≤ g.length := by simpa [Config.minFrame] using h
  have hlast : (g.drop (g.length - 2)).length = 2 := by
    rw [List.length_drop]
    omega
  obtain ⟨lo, hi, htail⟩ := List.length_eq_two.1 hlast
  exact ⟨a, c, g.take (g.length - 2), lo, hi, by simp [frameBody, ← htail]⟩

/-- PARSE accepts exactly the frames whose address meets the expectation, and gives back what they were built from. -/
theorem parseFrame_eq_ok {f : Bytes} {e : Option Int} {a c : Byte} {d : Bytes} :
    parseFrame f e = .ok (a, c, d) ↔ f = frame a c d ∧ addressMatches a e = true := by
  constructor
  · intro h
    have hlong : Config.minFrame ≤ f.length := by
      by_contra hshort
      rw [parseFrame_short (Nat.not_le.1 hshort)] at h
      cases h
    obtain ⟨b, r, p, lo, hi, rfl⟩ := exists_body_of_long hlong
    rw [parseFrame_append_two] at h
    split at h
    next hcrc =>
      split at h
      next haddr =>
        cases h
        exact ⟨by rw [hcrc]; rfl, haddr⟩
      next => cases h
    next => cases h
  · rintro ⟨rfl, haddr⟩
    rw [parseFrame_frame, if_pos haddr]

/-! ### BUILD -/

/-- Settles O11: in IDLE BUILD runs, its range checks pass, and it writes CRC and OUT. -/
theorem buildAnswersTheFrame : Obligations.BuildAnswersTheFrame := by
  unfold Obligations.BuildAnswersTheFrame
  intro s a c d body hidle ha0 ha hc0 hc hd hbody
  have hin (z : Int) (h0 : 0 ≤ z) (h : z ≤ 255) : inByte z = true := by simp [inByte, h0, h]
  have hall : d.all inByte = true := List.all_eq_true.2 fun e he => hin e (hd e he).1 (hd e he).2
  have hbuild : buildRequest a c d = .ok (sealBody (requestBody a c d)) :=
    buildRequest_of_ranges (hin a ha0 ha) (hin c hc0 hc) hall
  have hreq : requestBody a c d = body := hbody.symm
  have hrun : exec (.build a c d) s = .next (runBuild a c d s) := congrArg _ (whenIdle_of_idle hidle _)
  rw [hrun, runBuild, hbuild, hreq, ← crcBytes_eq_ofNat]
  exact congrArg _ (succeed_of_idle (s := s.useCrc body) hidle _)

/-! ### Bytes after a frame (R105) -/

/-- While the bits shifted out are 0 the polynomial does not enter (R141). -/
theorem crcShifts_of_low_zero {n : Nat} {x : Word16} (h : ∀ j < n, x.getLsbD j = false) :
    crcShifts n x = x >>> n := by
  induction n generalizing x with
  | zero => rfl
  | succ n ih =>
    have hshift : crcShift x = x >>> 1 := if_neg (Bool.eq_false_iff.1 (h 0 n.succ_pos))
    have hlow : ∀ j < n, (x >>> 1).getLsbD j = false := fun j hj => by
      simpa [Nat.add_comm] using h (j + 1) (Nat.succ_lt_succ hj)
    rw [crcShifts, hshift, ih hlow, ← BitVec.shiftRight_add, Nat.add_comm]

/-- The byte that cancels the low half of the CRC register leaves the high half, moved down. -/
theorem crcByte_lowByte (v : Word16) : crcByte v (lowByte v) = (highByte v).setWidth 16 := by
  have hlow : ∀ j < 8, (v ^^^ (lowByte v).setWidth 16).getLsbD j = false := fun j hj => by
    simp [lowByte, hj, (by omega : j < 16)]
  rw [crcByte, crcShifts_of_low_zero hlow]
  apply BitVec.eq_of_getLsbD_eq
  intro j hj
  have hv : v.getLsbD (8 + j) = true → j < 8 := fun h => by
    have hwidth : 8 + j < 16 := BitVec.lt_of_getLsbD h
    omega
  simpa [lowByte, highByte, hj] using hv

/-- The byte that cancels the whole CRC register leaves 0. -/
theorem crcByte_setWidth_self (b : Byte) : crcByte (b.setWidth 16) b = 0 := by
  rw [crcByte, BitVec.xor_self]
  rfl

/-- The CRC of a string goes on from the CRC of its front part. -/
theorem crc16_append (s t : Bytes) : crc16 (s ++ t) = crcFrom (crc16 s) t := List.foldl_append

/-- The CRC of a string followed by its own CRC is 0 (R144). -/
theorem crc16_sealBody (body : Bytes) : crc16 (sealBody body) = 0 := by
  have hbytes : crc16 (sealBody body) = crcByte (crcByte (crc16 body) (lowByte (crc16 body))) (highByte (crc16 body)) :=
    crc16_append body _
  rw [hbytes, crcByte_lowByte, crcByte_setWidth_self]

/-- From 0, bytes 0 leave 0. -/
theorem crcFrom_zero_replicate (n : Nat) : crcFrom 0 (List.replicate n 0) = 0 := by
  induction n with
  | zero => rfl
  | succ n ih => exact ih

/-- One byte after a frame: the CRC's low byte joins the body, whose CRC is then the high byte alone. -/
theorem parseFrame_frame_append_byte (a c : Byte) (d : Bytes) (b : Byte) :
    parseFrame (frame a c d ++ [b]) none =
      if b = 0 then .ok (a, c, d ++ [lowByte (crc16 (frameBody a c d))]) else .error .badCrc := by
  have hsplit : frame a c d ++ [b] = frameBody a c (d ++ [lowByte (crc16 (frameBody a c d))]) ++
      [highByte (crc16 (frameBody a c d)), b] := by
    simp [frame, sealBody, frameBody, crcBytes]
  have hcrc : crc16 (frameBody a c (d ++ [lowByte (crc16 (frameBody a c d))])) =
      (highByte (crc16 (frameBody a c d))).setWidth 16 :=
    (crc16_append (frameBody a c d) _).trans (crcByte_lowByte _)
  simp [hsplit, parseFrame_append_two, hcrc, ← le16_eq_iff, le16_eq_setWidth_iff, addressMatches]

/-- Two or more bytes after a frame: the frame leaves the CRC register at 0, and the CRC goes on from there. -/
theorem parseFrame_frame_append (a c : Byte) (d extra : Bytes) (lo hi : Byte) :
    parseFrame (frame a c d ++ (extra ++ [lo, hi])) none =
      if [lo, hi] = crcBytes (crcFrom 0 extra) then .ok (a, c, d ++ crcBytes (crc16 (frameBody a c d)) ++ extra)
      else .error .badCrc := by
  have hbody : frame a c d ++ extra = frameBody a c (d ++ crcBytes (crc16 (frameBody a c d)) ++ extra) := by
    simp [frame, sealBody, frameBody]
  have hcrc : crc16 (frame a c d ++ extra) = crcFrom 0 extra := by rw [crc16_append, frame, crc16_sealBody]
  rw [← List.append_assoc, hbody, parseFrame_append_two, ← hbody, hcrc]
  rfl

/-- Any number of bytes 0 after a frame passes. -/
theorem parseFrame_frame_append_zeros (a c : Byte) (d : Bytes) (n : Nat) :
    ∃ more, parseFrame (frame a c d ++ List.replicate n 0) none = .ok (a, c, d ++ more) := by
  match n with
  | 0 => exact ⟨[], by simp [parseFrame_frame, addressMatches]⟩
  | 1 => exact ⟨_, (parseFrame_frame_append_byte a c d 0).trans (if_pos rfl)⟩
  | n + 2 =>
    have hzeros : List.replicate (n + 2) (0 : Byte) = List.replicate n 0 ++ [0, 0] := List.replicate_add n 2 0
    have hpass : ([0, 0] : Bytes) = crcBytes (crcFrom 0 (List.replicate n 0)) := by
      rw [crcFrom_zero_replicate]
      rfl
    rw [hzeros, parseFrame_frame_append, if_pos hpass, List.append_assoc]
    exact ⟨_, rfl⟩

/-- Settles O15: one byte, two or more, and any number of bytes 0. -/
theorem trailingBytesAfterAFrame : Obligations.TrailingBytesAfterAFrame := by
  unfold Obligations.TrailingBytesAfterAFrame
  exact ⟨parseFrame_frame_append_byte, parseFrame_frame_append, parseFrame_frame_append_zeros⟩

/-! ### Codes -/

/-- Settles O18: the tables of R124 and R125, and the two kinds of R321. -/
theorem outcomesHaveTheirCodes : Obligations.OutcomesHaveTheirCodes := by
  unfold Obligations.OutcomesHaveTheirCodes
  refine ⟨rfl, rfl, rfl, rfl, rfl, rfl, fun k => ?_, fun _ => rfl, fun _ => rfl, fun _ => rfl⟩
  cases k <;> simp [Kind.isTransportError]

end Sys2Proof.Machine

/-! # Encoding: request frames of host operations (O2, O3, O4) -/

namespace Sys2Proof

open Sys2Proof.Machine

/-! ### Bytes as integers (R112) -/

theorem byteInt_toByte {z : Int} (h : inByte z = true) : byteInt (toByte z) = z := by
  have hz : 0 ≤ z ∧ z ≤ 255 := by simpa [inByte] using h
  simp [byteInt, toByte]
  omega

@[simp] theorem toByte_byteInt (b : Byte) : toByte (byteInt b) = b :=
  BitVec.eq_of_toNat_eq (by simp [toByte, byteInt])

@[simp] theorem inByte_byteInt (b : Byte) : inByte (byteInt b) = true := by
  have hb : b.toNat < 256 := b.isLt
  simp [inByte, byteInt]
  omega

theorem map_byteInt_map_toByte {d : List Int} (h : d.all inByte = true) : (d.map toByte).map byteInt = d := by
  have hid : ∀ z ∈ d, (byteInt ∘ toByte) z = id z := fun z hz => byteInt_toByte (List.all_eq_true.1 h z hz)
  rw [List.map_map, List.map_congr_left hid, List.map_id]

theorem map_toByte_map_byteInt (d : Bytes) : (d.map byteInt).map toByte = d := by
  simp [Function.comp_def]

/-! ### Request shapes (R120) -/

/-- A request frame is the frame of the request shape, for operands that fit one. -/
theorem encodeWire_eq_some {a : Byte} {i : Instr} {f : Bytes} :
    encodeWire a i = some f ↔
      i.fitsFrame = true ∧ ∃ c d, requestShape i = some (c, d) ∧ frame a (toByte c) (d.map toByte) = f := by
  unfold encodeWire
  split
  next h => simp [h]
  next h => simp [h]

/-- The shape of an operation whose operands fit a frame names that operation. -/
theorem shapeOf_of_requestShape {i : Instr} {c : Int} {d : List Int} (hfits : i.fitsFrame = true)
    (h : requestShape i = some (c, d)) : shapeOf (toByte c).toNat (d.map toByte) = .ok i := by
  cases i with
  | openSession lvl pw =>
    simp only [Instr.fitsFrame, Bool.and_eq_true, decide_eq_true_eq] at hfits
    obtain ⟨hlvl, hpw, hlen⟩ := hfits
    cases h
    have hcode : (toByte 1).toNat = 1 := rfl
    simp only [hcode, List.map_cons, shapeOf, List.length_map, if_pos hlen, byteInt_toByte hlvl,
      map_byteInt_map_toByte hpw]
  | readEnergy group index =>
    simp only [Instr.fitsFrame, Bool.and_eq_true] at hfits
    obtain ⟨hgroup, hindex⟩ := hfits
    cases h
    have hcode : (toByte 5).toNat = 5 := rfl
    simp only [hcode, List.map_cons, List.map_nil, shapeOf, byteInt_toByte hgroup, byteInt_toByte hindex]
  | testLink | readInfo | readRatios | readVersion | readNetaddr | unlockArchive =>
    cases h
    rfl
  | configure | checksum | build | parse | exchange | close | reservedOp => cases h

/-- The operation that a command byte and data name has operands that fit a frame, and this shape. -/
theorem requestShape_of_shapeOf {c : Byte} {d : Bytes} {i : Instr} (h : shapeOf c.toNat d = .ok i) :
    i.fitsFrame = true ∧ requestShape i = some (byteInt c, d.map byteInt) := by
  unfold shapeOf at h
  split at h
  next hc =>
    cases h
    simp [Instr.fitsFrame, requestShape, byteInt, hc]
  next lvl pw hc =>
    split at h
    next hlen =>
      cases h
      have hcode : byteInt c = 1 := by simp [byteInt, hc]
      simp [Instr.fitsFrame, requestShape, hcode, hlen]
    next => cases h
  next group index hc =>
    cases h
    have hcode : byteInt c = 5 := by simp [byteInt, hc]
    simp [Instr.fitsFrame, requestShape, hcode]
  next sub hc =>
    split at h
    case h_6 => cases h
    all_goals
      rename_i hsub
      cases h
      simp [Instr.fitsFrame, requestShape, byteInt, hc, hsub]
  next => cases h

/-- A wire request is a frame of a request shape (log 3). -/
theorem decodeWire_eq_ok {f : Bytes} {i : Instr} :
    decodeWire f = .ok i ↔ ∃ a c d, f = frame a c d ∧ shapeOf c.toNat d = .ok i := by
  have hframe (a c : Byte) (d : Bytes) : decodeWire (frame a c d) = shapeOf c.toNat d := by
    simp [decodeWire, parseFrame_frame, addressMatches]
  constructor
  · intro h
    cases hparse : parseFrame f none with
    | error r => simp [decodeWire, hparse] at h
    | ok x =>
      obtain ⟨rfl, -⟩ := parseFrame_eq_ok.1 hparse
      exact ⟨x.1, x.2.1, x.2.2, rfl, hframe x.1 x.2.1 x.2.2 ▸ h⟩
  · rintro ⟨a, c, d, rfl, h⟩
    rw [hframe, h]

/-- Settles O2: PARSE gives back the command byte and data of the frame, and they name the operation. -/
theorem wireRequestDecodesItsFrame : Obligations.WireRequestDecodesItsFrame := by
  unfold Obligations.WireRequestDecodesItsFrame
  intro a i f h
  obtain ⟨hfits, c, d, hshape, rfl⟩ := encodeWire_eq_some.1 h
  exact decodeWire_eq_ok.2 ⟨_, _, _, rfl, shapeOf_of_requestShape hfits hshape⟩

/-- Settles O3: PARSE accepts only frames, and a command byte and data name only the operation of that shape. -/
theorem decodedFrameIsTheRequestFrame : Obligations.DecodedFrameIsTheRequestFrame := by
  unfold Obligations.DecodedFrameIsTheRequestFrame
  intro f i h
  obtain ⟨a, c, d, rfl, hshape⟩ := decodeWire_eq_ok.1 h
  obtain ⟨hfits, hrequest⟩ := requestShape_of_shapeOf hshape
  have haddr : (frame a c d).getD 0 0 = a := rfl
  exact encodeWire_eq_some.2 ⟨hfits, _, _, hrequest, by rw [haddr, toByte_byteInt, map_toByte_map_byteInt]⟩

/-- Settles O4: the words are closed, and the decoder is run on each. -/
theorem writtenOutWordsDecode : Obligations.WrittenOutWordsDecode := by
  unfold Obligations.WrittenOutWordsDecode
  exact ⟨rfl, rfl, rfl, rfl, rfl, by decide +kernel, by decide +kernel, by decide +kernel, by decide +kernel⟩

end Sys2Proof

/-! # EXCHANGE and the host operations on a good first reply (O48) -/

namespace Sys2Proof.Machine

open Sys2Proof

/-! ### Transitions answered from the script (R197 to R199; log 5) -/

/-- A call answered from the script records itself, lets the arrivals in and uses the answer up. -/
theorem callTransport_of_inputs {s : State} {d : Draw} {rest : List Draw} (hin : s.inputs = d :: rest)
    (c : TransportCall) :
    s.callTransport c = { s with calls := s.calls ++ [c], pending := s.pending ++ d.arrivals, inputs := rest } := by
  simp [State.callTransport, State.nextDraw, hin]

section

variable {s : State} {d : Draw} {rest : List Draw} (hin : s.inputs = d :: rest) (hok : d.fails = false)

include hin hok

theorem fsmStep_of_answered_discard (hf : s.fsm = .discard) :
    fsmStep s = { s with fsm := .write, pending := [], calls := s.calls ++ [.discard], inputs := rest } := by
  obtain ⟨-, h⟩ := (fsmDiscard_cases s).resolve_left (by simp [nextDraw_of_inputs hin, hok])
  rw [fsmStep_of_discard hf, h, callTransport_of_inputs hin]

theorem fsmStep_of_answered_write (hf : s.fsm = .write) :
    fsmStep s = { s with
      fsm := .readHead, rx := [], tx := s.tx ++ s.req, pending := s.pending ++ d.arrivals
      calls := s.calls ++ [.write s.req], inputs := rest } := by
  obtain ⟨-, h⟩ := (fsmWrite_cases s).resolve_left (by simp [nextDraw_of_inputs hin, hok])
  rw [fsmStep_of_write hf, h, callTransport_of_inputs hin]

theorem fsmStep_of_answered_readHead (hf : s.fsm = .readHead) :
    fsmStep s = { s with
      fsm := .pollAvail, rx := (splitRead d.count s.minlen (s.pending ++ d.arrivals)).1
      pending := (splitRead d.count s.minlen (s.pending ++ d.arrivals)).2
      calls := s.calls ++ [.read s.minlen], inputs := rest } := by
  have hd : s.nextDraw = d := nextDraw_of_inputs hin
  rw [fsmStep_of_readHead hf, fsmReadHead_of_ok (hd ▸ hok), callTransport_of_inputs hin, hd]

theorem fsmStep_of_answered_poll_zero (hf : s.fsm = .pollAvail) (hzero : d.count = 0) :
    fsmStep s = { s with
      fsm := .checkLen, att := s.att + 1, lastRaw := s.rx, availN := 0, pending := s.pending ++ d.arrivals
      calls := s.calls ++ [.avail], inputs := rest } := by
  obtain ⟨-, -, h⟩ := ((fsmPollAvail_cases s).resolve_left (by simp [nextDraw_of_inputs hin, hok])).resolve_left
    (by simp [nextDraw_of_inputs hin, hzero])
  rw [fsmStep_of_pollAvail hf, h, callTransport_of_inputs hin]
  rfl

theorem fsmStep_of_answered_poll_pos (hf : s.fsm = .pollAvail) (hpos : 0 < d.count) :
    fsmStep s = { s with
      fsm := .readTail, availN := d.count, pending := s.pending ++ d.arrivals
      calls := s.calls ++ [.avail], inputs := rest } := by
  obtain ⟨-, -, h⟩ := ((fsmPollAvail_cases s).resolve_left (by simp [nextDraw_of_inputs hin, hok])).resolve_right
    (by simp [nextDraw_of_inputs hin, hpos.ne'])
  rw [fsmStep_of_pollAvail hf, h, callTransport_of_inputs hin, nextDraw_of_inputs hin]

theorem fsmStep_of_answered_readTail (hf : s.fsm = .readTail) :
    fsmStep s = { s with
      fsm := .checkLen, att := s.att + 1
      rx := s.rx ++ (splitRead d.count s.availN (s.pending ++ d.arrivals)).1
      lastRaw := s.rx ++ (splitRead d.count s.availN (s.pending ++ d.arrivals)).1
      pending := (splitRead d.count s.availN (s.pending ++ d.arrivals)).2
      calls := s.calls ++ [.read s.availN], inputs := rest } := by
  have hd : s.nextDraw = d := nextDraw_of_inputs hin
  rw [fsmStep_of_readTail hf, fsmReadTail_of_ok (hd ▸ hok), callTransport_of_inputs hin, hd]
  rfl

end

/-! ### One attempt -/

/-- What the receive phase of an attempt leaves in PENDING, with minimum length `m` (R199). -/
def Attempt.leaves (a : Attempt) (m : Nat) : Bytes :=
  if a.poll.count = 0 then (splitRead a.head.count m (a.write.arrivals ++ a.head.arrivals)).2 ++ a.poll.arrivals
  else (splitRead a.tail.count a.poll.count
    ((splitRead a.head.count m (a.write.arrivals ++ a.head.arrivals)).2 ++ a.poll.arrivals ++ a.tail.arrivals)).2

/-- The state when the receive phase of an attempt with these answers has ended and `rest` are the answers left. -/
def State.afterAttempt (s : State) (a : Attempt) (rest : List Draw) : State :=
  { s with
    fsm := .checkLen
    att := s.att + 1
    rx := a.delivers s.minlen
    lastRaw := a.delivers s.minlen
    availN := a.poll.count
    pending := a.leaves s.minlen
    tx := s.tx ++ s.req
    calls := s.calls ++ attemptCalls s.req s.minlen a.poll.count
    inputs := rest }

theorem Attempt.draws_length_le (a : Attempt) : a.draws.length ≤ 5 := by
  unfold Attempt.draws
  split <;> simp

/-- One transition of a running exchange, to a state that is known. -/
theorem runFsm_of_step {s t : State} (hrun : s.fsm ≠ .idle) (h : fsmStep s = t) (n : Nat) :
    runFsm (n + 1) s = runFsm n t :=
  h ▸ runFsm_of_running hrun n

/-- An attempt makes one transition per answer: four, and one more for the tail read (R199). -/
theorem runFsm_attempt {s : State} {a : Attempt} {rest : List Draw} (hf : s.fsm = .discard)
    (hin : s.inputs = a.draws ++ rest) (hok : noneFails a.draws) (n : Nat) :
    runFsm (n + a.draws.length) s = runFsm n (s.afterAttempt a rest) := by
  obtain ⟨discard, write, head, poll, tail⟩ := a
  simp only [noneFails, Attempt.draws, List.forall_mem_append, List.forall_mem_cons] at hok
  obtain ⟨⟨hdiscard, hwrite, hhead, hpoll, -⟩, htail⟩ := hok
  have hlen : n + (Attempt.draws ⟨discard, write, head, poll, tail⟩).length =
      n + (if 0 < poll.count then [tail] else []).length + 1 + 1 + 1 + 1 := by
    simp only [Attempt.draws, List.length_append, List.length_cons, List.length_nil]
    omega
  rw [hlen, runFsm_of_step (by simp [hf]) (fsmStep_of_answered_discard hin hdiscard hf),
    runFsm_of_step (by simp) (fsmStep_of_answered_write rfl hwrite rfl),
    runFsm_of_step (by simp) (fsmStep_of_answered_readHead rfl hhead rfl)]
  by_cases hzero : poll.count = 0
  · rw [runFsm_of_step (by simp) (fsmStep_of_answered_poll_zero rfl hpoll rfl hzero)]
    simp [State.afterAttempt, Attempt.delivers, collects, Attempt.leaves, attemptCalls, hzero]
  · have hpos : 0 < poll.count := Nat.pos_of_ne_zero hzero
    simp only [hpos, if_true, List.forall_mem_singleton] at htail
    rw [runFsm_of_step (by simp) (fsmStep_of_answered_poll_pos rfl hpoll rfl hpos), if_pos hpos, List.length_singleton,
      runFsm_of_step (by simp) (fsmStep_of_answered_readTail rfl htail rfl)]
    simp [State.afterAttempt, Attempt.delivers, collects, Attempt.leaves, attemptCalls, hzero, hpos]

/-- A good frame received ends the exchange with its response (R200, R201). -/
theorem runFsm_of_goodFrame {s : State} {a rc : Byte} {p : Bytes} (hf : s.fsm = .checkLen)
    (hparse : parseFrame s.rx (some (byteInt s.addr)) = .ok (a, rc, p)) (n : Nat) :
    runFsm (n + 2) s = (s.noteLong.useCrcToParse s.rx).succeed (.response rc p) := by
  have hlong : ¬s.rx.length < Config.minFrame := fun hshort => by
    rw [parseFrame_short hshort] at hparse
    cases hparse
  have hcheck : fsmStep s = { s.noteLong with fsm := .parse } := by simp [fsmStep, hf, fsmCheckLen, hlong]
  have hend : fsmStep { s.noteLong with fsm := .parse } = (s.noteLong.useCrcToParse s.rx).succeed (.response rc p) := by
    simp [fsmStep, fsmParse, hparse, useCrcToParse_eq, State.succeed]
  rw [runFsm_of_step (by simp [hf]) hcheck, runFsm_of_step (by simp) hend, runFsm_of_idle rfl]

/-! ### EXCHANGE up to its first attempt, and with a good one -/

/-- The state in which the first attempt of an EXCHANGE with these operands begins (R190, R192, R193). -/
def State.firstAttempt (s : State) (c : Int) (d : List Int) (m : Nat) : State :=
  { ((s.latchExchange c d m).useCrc (requestBody (byteInt s.addr) c d)).initAttempts with
    req := frame s.addr (toByte c) (d.map toByte)
    fsm := .discard }

/-- With an open transport and operands that are bytes, EXCHANGE comes to its first attempt. -/
theorem exchange_eq_runFsm_firstAttempt {s : State} {c : Int} {d : List Int} (hidle : s.fsm = .idle)
    (hopen : s.lc = .opened) (hc : inByte c = true) (hd : d.all inByte = true) (m : Nat) :
    exchange c d m s = runFsm (7 * (s.retries + 1) + 1) (s.firstAttempt c d m) := by
  obtain ⟨-, hrun⟩ := (exchange_cases hidle c d m).resolve_right (fun h => h.1 hopen)
  have hbuild : buildRequest (byteInt s.addr) c d = .ok (frame s.addr (toByte c) (d.map toByte)) := by
    rw [buildRequest_of_ranges (inByte_byteInt _) hc hd, toByte_byteInt]
  have hstep : fsmStep (s.latchExchange c d m) = s.firstAttempt c d m := by
    simp [fsmStep, fsmBuild, hbuild, State.firstAttempt]
  rw [hrun, exchangeBound, runFsm_of_step (by simp) hstep]

/-- The answers of several attempts are those of the first and then those of the others. -/
theorem attempted_cons {s : State} {a : Attempt} {as : List Attempt} {rest : List Draw} :
    attempted s (a :: as) rest ↔
      s.inputs = a.draws ++ (as.flatMap Attempt.draws ++ rest) ∧ noneFails a.draws ∧
        ∀ b ∈ as, noneFails b.draws := by
  simp [attempted]

/-- EXCHANGE whose first attempt delivers a good frame: the outcome, the request on the wire, and the answers left. -/
theorem exchange_of_goodFrame {s : State} {c : Int} {d : List Int} {m : Nat} {a : Attempt} {as : List Attempt}
    {rest : List Draw} {b rc : Byte} {p : Bytes} (hidle : s.fsm = .idle) (hopen : s.lc = .opened)
    (hc : inByte c = true) (hd : d.all inByte = true) (hatt : attempted s (a :: as) rest)
    (hparse : parseFrame (a.delivers m) (some (byteInt s.addr)) = .ok (b, rc, p)) :
    (exchange c d m s).out = .ok (.response rc p) ∧
    (exchange c d m s).req = frame s.addr (toByte c) (d.map toByte) ∧
    (exchange c d m s).tx = s.tx ++ frame s.addr (toByte c) (d.map toByte) ∧
    attempted (exchange c d m s) as rest := by
  obtain ⟨hin, hok, hoks⟩ := attempted_cons.1 hatt
  have hbound : 7 * (s.retries + 1) + 1 = 7 * s.retries + (6 - a.draws.length) + 2 + a.draws.length := by
    have hfive : a.draws.length ≤ 5 := a.draws_length_le
    omega
  rw [exchange_eq_runFsm_firstAttempt hidle hopen hc hd, hbound,
    runFsm_attempt (s := s.firstAttempt c d m) rfl hin hok, runFsm_of_goodFrame rfl hparse, useCrcToParse_eq]
  exact ⟨rfl, rfl, rfl, rfl, hoks⟩

/-- The first four or five answers that deliver a string are those of one attempt. -/
theorem attempted_of_repliesWith {s : State} {m : Nat} {f : Bytes} (h : repliesWith s m f) :
    ∃ a rest, attempted s [a] rest ∧ a.delivers m = f := by
  obtain ⟨discard, write, head, poll, tail, rest, hin, hok, hf⟩ := h
  have hfour : noneFails [discard, write, head, poll] := fun d hd => hok d (List.mem_append_left [tail] hd)
  by_cases hpos : 0 < poll.count
  · refine ⟨⟨discard, write, head, poll, tail⟩, rest, attempted_cons.2 ⟨?_, ?_, nofun⟩, hf⟩
    · simp [Attempt.draws, hpos, hin]
    · simpa [Attempt.draws, hpos] using hok
  · refine ⟨⟨discard, write, head, poll, tail⟩, tail :: rest, attempted_cons.2 ⟨?_, ?_, nofun⟩, hf⟩
    · simp [Attempt.draws, hpos, hin]
    · simpa [Attempt.draws, hpos] using hfour

/-! ### The host's side -/

/-- The host's EXCHANGE whose first attempt delivers a good frame reads its response, in IDLE and with its settings kept. -/
theorem hostExchange_of_goodFrame {s : State} {c : Int} {d : List Int} {m : Nat} {a : Attempt} {as : List Attempt}
    {rest : List Draw} {b rc : Byte} {p : Bytes} (hidle : s.fsm = .idle) (hopen : s.lc = .opened)
    (hc : inByte c = true) (hd : d.all inByte = true) (hatt : attempted s (a :: as) rest)
    (hparse : parseFrame (a.delivers m) (some (byteInt s.addr)) = .ok (b, rc, p)) :
    ∃ t, hostExchange c d m s = (.ok (rc, p), t) ∧ t.fsm = .idle ∧ t.settings = s.settings ∧
      t.out = .ok (.response rc p) ∧ t.req = frame s.addr (toByte c) (d.map toByte) ∧ t.tx = s.tx ++ t.req ∧
      attempted t as rest := by
  obtain ⟨hout, hreq, htx, hatt⟩ := exchange_of_goodFrame hidle hopen hc hd hatt hparse
  refine ⟨exchange c d m s, ?_, exchange_idle hidle c d m, exchange_settings c d m s, hout, hreq, hreq ▸ htx,
    hatt⟩
  rw [hostExchange, hout]
  rfl

/-- Operands that fit the request frame make a shape of bytes. -/
theorem inByte_of_requestShape {i : Instr} {c : Int} {d : List Int} (hfits : i.fitsFrame = true)
    (h : requestShape i = some (c, d)) : inByte c = true ∧ d.all inByte = true := by
  cases i with
  | openSession lvl pw =>
    simp only [Instr.fitsFrame, Bool.and_eq_true] at hfits
    obtain ⟨hlvl, hpw, -⟩ := hfits
    cases h
    exact ⟨rfl, by simp only [List.all_cons, hlvl, hpw, Bool.and_self]⟩
  | readEnergy group index =>
    simp only [Instr.fitsFrame, Bool.and_eq_true] at hfits
    obtain ⟨hgroup, hindex⟩ := hfits
    cases h
    exact ⟨rfl, by simp [hgroup, hindex]⟩
  | testLink | readInfo | readRatios | readVersion | readNetaddr | unlockArchive =>
    cases h
    exact ⟨rfl, rfl⟩
  | configure | checksum | build | parse | exchange | close | reservedOp => cases h

/-- OPEN_SESSION with a password of six is its EXCHANGE (R263). -/
theorem hostOpenSession_of_six {pw : List Int} (hpw : pw.length = 6) (lvl : Int) (s : State) :
    hostOpenSession lvl pw s = hostExchange 0x01 (lvl :: pw) s.hostMin.openSession s :=
  if_pos hpw

/-- TEST_LINK, OPEN_SESSION and UNLOCK_ARCHIVE are one EXCHANGE whose response is not looked at (R262, R263, R275). -/
theorem exec_of_contentIgnoring {i : Instr}
    (hi : i = .testLink ∨ (∃ lvl pw, i = .openSession lvl pw) ∨ i = .unlockArchive) (hfits : i.fitsFrame = true)
    (s : State) :
    ∃ c d, requestShape i = some (c, d) ∧
      exec i s = .next (hostEnd (hostExchange c d (minLenOf i s.hostMin) s) fun _ => .unit) := by
  rcases hi with rfl | ⟨lvl, pw, rfl⟩ | rfl
  · exact ⟨_, _, rfl, rfl⟩
  · simp only [Instr.fitsFrame, Bool.and_eq_true, decide_eq_true_eq] at hfits
    obtain ⟨-, -, hlen⟩ := hfits
    exact ⟨_, _, rfl, by rw [exec, execOpenSession, hostOpenSession_of_six hlen]; rfl⟩
  · exact ⟨_, _, rfl, rfl⟩

/-- PREPARE_ENERGY whose two EXCHANGEs each deliver a good frame at the first attempt (R275). -/
theorem hostPrepareEnergy_of_goodFrames {s : State} {x y : Attempt} {as : List Attempt} {rest : List Draw}
    {a rc b rd : Byte} {p q : Bytes} (hidle : s.fsm = .idle) (hopen : s.lc = .opened)
    (hatt : attempted s (x :: y :: as) rest)
    (hx : parseFrame (x.delivers s.hostMin.openSession) (some (byteInt s.addr)) = .ok (a, rc, p))
    (hy : parseFrame (y.delivers s.hostMin.unlock) (some (byteInt s.addr)) = .ok (b, rd, q)) :
    ∃ u, hostPrepareEnergy s = (.ok (rd, q), u) ∧ u.fsm = .idle ∧ u.settings = s.settings ∧
      u.out = .ok (.response rd q) ∧ u.tx = s.tx ++ (prepareFrames s.addr).flatten ∧ attempted u as rest := by
  obtain ⟨t, ht, htidle, htsettings, -, htreq, httx, htatt⟩ :=
    hostExchange_of_goodFrame (c := 0x01) (d := [0x01, 0x01, 0x01, 0x01, 0x01, 0x01, 0x01]) hidle hopen rfl rfl hatt hx
  obtain ⟨hlc, haddr, -, -, -, -, -, hmin, -⟩ := Settings.mk.inj htsettings
  rw [← haddr, ← hmin] at hy
  obtain ⟨u, hu, huidle, husettings, huout, hureq, hutx, huatt⟩ :=
    hostExchange_of_goodFrame (c := 0x08) (d := [0x12]) htidle (hlc.trans hopen) rfl rfl htatt hy
  refine ⟨u, ?_, huidle, husettings.trans htsettings, huout, ?_, huatt⟩
  · rw [hostPrepareEnergy, hostOpenSession_of_six rfl, ht]
    exact hu
  · rw [hutx, httx, htreq, hureq, haddr, List.append_assoc]
    rfl

/-- Settles O48: each EXCHANGE ends with its first attempt, and no host-side check follows it. -/
theorem contentIgnoringOperationsSucceed : Obligations.ContentIgnoringOperationsSucceed := by
  unfold Obligations.ContentIgnoringOperationsSucceed
  refine ⟨fun s i f a rc p hi hfits hidle hopen hreply hparse => ?_,
    fun s x y rest a rc b rd p q hidle hopen hatt hx hy => ?_⟩
  · obtain ⟨c, d, hshape, hexec⟩ := exec_of_contentIgnoring hi hfits s
    obtain ⟨hc, hd⟩ := inByte_of_requestShape hfits hshape
    obtain ⟨x, rest, hatt, rfl⟩ := attempted_of_repliesWith hreply
    obtain ⟨t, ht, -, -, hout, hreq, htx, -⟩ := hostExchange_of_goodFrame hidle hopen hc hd hatt hparse
    rw [ht] at hexec
    exact ⟨_, hexec, rfl, hout, encodeWire_eq_some.2 ⟨hfits, c, d, hshape, hreq.symm⟩, htx⟩
  · obtain ⟨u, hu, -, -, hout, htx, hin, -⟩ := hostPrepareEnergy_of_goodFrames hidle hopen hatt hx hy
    simp only [runSequence, hu]
    exact ⟨rfl, hout, htx, hin⟩

end Sys2Proof.Machine

/-! # The CRC unit and the pure operations (O7, O8, O9, O16) -/

namespace Sys2Proof.Machine

open Sys2Proof

/-! ### CRC16 as R140 writes it -/

/-- One shift on numbers: the bit lost decides whether the polynomial enters (R141). -/
theorem crcShift_toNat (c : Word16) :
    (crcShift c).toNat = if c.toNat % 2 = 1 then (c.toNat / 2) ^^^ 0xA001 else c.toNat / 2 := by
  have hlost : c.getLsbD 0 = true ↔ c.toNat % 2 = 1 := by simp [BitVec.getLsbD]
  simp only [crcShift, hlost]
  split <;> simp [Config.crcPoly, Nat.shiftRight_eq_div_pow]

theorem crcShifts_eq_iterate (n : Nat) (c : Word16) : crcShifts n c = crcShift^[n] c := by
  induction n generalizing c with
  | zero => rfl
  | succ n ih => exact ih (crcShift c)

/-- Settles O7: one shift, the start value, and one more byte as eight shifts. -/
theorem crcFollowsItsAlgorithm : Obligations.CrcFollowsItsAlgorithm := by
  unfold Obligations.CrcFollowsItsAlgorithm
  refine ⟨crcShift_toNat, rfl, fun s b => ?_⟩
  have hbyte : crc16 (s ++ [b]) = crcShifts 8 (crc16 s ^^^ b.setWidth 16) := crc16_append s [b]
  rw [hbyte, crcShifts_eq_iterate, BitVec.ofNat_toNat]

/-- Settles O8: the two bytes are those a sealed body ends with. -/
theorem crcResidueIsZero : Obligations.CrcResidueIsZero := by
  unfold Obligations.CrcResidueIsZero
  intro b
  rw [← crcBytes_eq_ofNat]
  exact crc16_sealBody b

/-! ### The CRC unit loses nothing: each step is injective -/

/-- The polynomial has its top bit set and a halved register has it clear, so the top bit after a shift is the bit
lost. -/
theorem crcShift_getLsbD_top (c : Word16) : (crcShift c).getLsbD 15 = c.getLsbD 0 := by
  unfold crcShift
  split
  next h => simp [h, Config.crcPoly]
  next h => simpa using h

theorem crcShift_injective : Function.Injective crcShift := by
  intro c d h
  have hlost : c.getLsbD 0 = d.getLsbD 0 := by rw [← crcShift_getLsbD_top, h, crcShift_getLsbD_top]
  have hrest : c >>> 1 = d >>> 1 := by
    unfold crcShift at h
    rw [hlost] at h
    split at h
    · exact (BitVec.xor_left_inj _).1 h
    · exact h
  apply BitVec.eq_of_getLsbD_eq
  intro j _
  cases j with
  | zero => exact hlost
  | succ j => simpa [Nat.add_comm] using congrArg (BitVec.getLsbD · j) hrest

theorem crcShifts_injective (n : Nat) : Function.Injective (crcShifts n) := by
  rw [funext (crcShifts_eq_iterate n)]
  exact crcShift_injective.iterate n

/-- For a given byte the register before it can be told from the register after it. -/
theorem crcByte_left_injective (b : Byte) : Function.Injective (crcByte · b) := fun _ _ h =>
  (BitVec.xor_left_inj _).1 (crcShifts_injective 8 h)

/-- From a given register two bytes lead to the same register only when they are equal. -/
theorem crcByte_right_injective (c : Word16) : Function.Injective (crcByte c) := fun b b' h => by
  have hwide : b.setWidth 16 = b'.setWidth 16 := (BitVec.xor_right_inj _).1 (crcShifts_injective 8 h)
  simpa using congrArg (BitVec.setWidth 8) hwide

theorem crcFrom_injective (s : Bytes) : Function.Injective (crcFrom · s) := by
  induction s with
  | nil => exact Function.injective_id
  | cons b s ih => exact ih.comp (crcByte_left_injective b)

/-- Strings that differ in one byte have different CRCs. -/
theorem crc16_set_ne {body : Bytes} {n : Nat} (hn : n < body.length) {b : Byte} (hb : b ≠ body[n]) :
    crc16 (body.set n b) ≠ crc16 body := by
  have hsplit (x : Byte) : crc16 (body.take n ++ x :: body.drop (n + 1)) =
      crcFrom (crcByte (crc16 (body.take n)) x) (body.drop (n + 1)) := crc16_append _ _
  have hbody : body.take n ++ body[n] :: body.drop (n + 1) = body := by simp
  intro h
  rw [List.set_eq_take_append_cons_drop, if_pos hn, hsplit, ← congrArg crc16 hbody, hsplit] at h
  exact hb (crcByte_right_injective _ (crcFrom_injective _ h))

/-! ### PARSE of a string with another CRC -/

theorem crcBytes_injective : Function.Injective crcBytes := fun v w h =>
  (le16_crcBytes v).symm.trans ((le16_eq_iff _ _ w).2 h)

/-- A body of at least two bytes with another value than its CRC is rejected, whatever the expectation (R170). -/
theorem parseFrame_append_crcBytes_ne {body : Bytes} (hlen : 2 ≤ body.length) {v : Word16} (hv : crc16 body ≠ v)
    (e : Option Int) : parseFrame (body ++ crcBytes v) e = .error .badCrc := by
  match body, hlen with
  | a :: c :: d, _ =>
    exact (parseFrame_append_two a c d _ _ e).trans (if_neg fun h => hv (crcBytes_injective h).symm)

/-- Flipping a bit of a byte changes it. -/
theorem xor_twoPow_ne (b : Byte) {j : Nat} (hj : j < 8) : b ^^^ BitVec.twoPow 8 j ≠ b := by
  intro h
  have hbit := congrArg (BitVec.getLsbD · j) h
  simp [hj] at hbit

/-- Settles O9: the flipped byte is another byte, so the CRC is another and PARSE fails its second check. -/
theorem singleBitFlipIsRejected : Obligations.SingleBitFlipIsRejected := by
  unfold Obligations.SingleBitFlipIsRejected
  intro s body n j e hidle hlen hn hj
  have hflip : body.getD n 0 ^^^ BitVec.twoPow 8 j ≠ body[n] := by
    rw [List.getD_eq_getElem _ _ hn]
    exact xor_twoPow_ne _ hj
  have hcrc := crc16_set_ne hn hflip
  have hparse := parseFrame_append_crcBytes_ne (by rwa [List.length_set]) hcrc e
  exact ⟨hcrc, _, exec_parse_of_error hidle hparse⟩

/-! ### What the pure operations write -/

/-- From `s` to `t` nothing changed but OUT and the CRC unit's working register. -/
def WritesOutAndCrc (s t : State) : Prop := t = { s with out := t.out, crc := t.crc }

theorem WritesOutAndCrc.refusedMark {s t : State} (h : WritesOutAndCrc s t) : t.refusedMark = s.refusedMark := by
  rw [WritesOutAndCrc] at h
  rw [h]

/-- A success in IDLE, after any use of the CRC unit. -/
theorem succeed_writesOutAndCrc {s : State} (hidle : s.fsm = .idle) (x : Word16) (v : OkValue) :
    WritesOutAndCrc s (({ s with crc := x }).succeed v) :=
  succeed_of_idle (s := { s with crc := x }) hidle v

/-- An error in IDLE, after any use of the CRC unit. -/
theorem fail_writesOutAndCrc {s : State} (hidle : s.fsm = .idle) (x : Word16) (info : Info) :
    WritesOutAndCrc s (({ s with crc := x }).fail info) :=
  fail_of_idle (s := { s with crc := x }) hidle info

theorem runChecksum_writesOutAndCrc {s : State} (hidle : s.fsm = .idle) (b : Bytes) :
    WritesOutAndCrc s (runChecksum b s) :=
  succeed_writesOutAndCrc hidle _ _

theorem runBuild_writesOutAndCrc {s : State} (hidle : s.fsm = .idle) (a c : Int) (d : List Int) :
    WritesOutAndCrc s (runBuild a c d s) := by
  unfold runBuild
  cases buildRequest a c d with
  | error r => exact fail_writesOutAndCrc hidle s.crc _
  | ok f => exact succeed_writesOutAndCrc hidle _ _

theorem runParse_writesOutAndCrc {s : State} (hidle : s.fsm = .idle) (f : Bytes) (e : Option Int) :
    WritesOutAndCrc s (runParse f e s) := by
  unfold runParse
  rw [useCrcToParse_eq]
  cases parseFrame f e with
  | error r => exact fail_writesOutAndCrc hidle _ _
  | ok x => exact succeed_writesOutAndCrc hidle _ _

/-- An operation that writes OUT and CRC in IDLE writes, refused or run, these and REFUSED_MARK, and REFUSED_MARK only
when refused. -/
theorem whenIdle_leavesTheRest {s : State} {body : State → State}
    (hbody : s.fsm = .idle → WritesOutAndCrc s (body s)) :
    s.whenIdle body = { s with
      out := (s.whenIdle body).out, crc := (s.whenIdle body).crc, refusedMark := (s.whenIdle body).refusedMark } ∧
    (s.fsm = .idle → (s.whenIdle body).refusedMark = s.refusedMark) := by
  by_cases hidle : s.fsm = .idle
  · rw [whenIdle_of_idle hidle, (hbody hidle).refusedMark]
    exact ⟨hbody hidle, fun _ => rfl⟩
  · rw [whenIdle_of_busy hidle]
    exact ⟨rfl, fun h => absurd h hidle⟩

/-- Settles O16: each of the three writes OUT and CRC in IDLE, and is refused elsewhere. -/
theorem pureOperationsLeaveTheRest : Obligations.PureOperationsLeaveTheRest := by
  unfold Obligations.PureOperationsLeaveTheRest
  intro s t i hi h
  rcases hi with ⟨b, rfl⟩ | ⟨a, c, d, rfl⟩ | ⟨f, e, rfl⟩ <;> obtain rfl := Host.Outcome.next.inj h
  · exact whenIdle_leavesTheRest fun hidle => runChecksum_writesOutAndCrc hidle b
  · exact whenIdle_leavesTheRest fun hidle => runBuild_writesOutAndCrc hidle a c d
  · exact whenIdle_leavesTheRest fun hidle => runParse_writesOutAndCrc hidle f e

end Sys2Proof.Machine

/-! # The frame codec: BUILD's checks, the round trip, and PARSE within EXCHANGE (O12, O13, O30) -/

namespace Sys2Proof.Machine

open Sys2Proof

/-! ### BUILD's answers in IDLE -/

/-- A byte is an integer in 0..255 (R9). -/
theorem inByte_iff (z : Int) : inByte z = true ↔ 0 ≤ z ∧ z ≤ 255 := by
  simp [inByte]

/-- In IDLE BUILD with an operand out of range writes OUT only (R160, R161). -/
theorem exec_build_of_error {s : State} {a c : Int} {d : List Int} {r : Reason} (hidle : s.fsm = .idle)
    (h : checkRanges a c d = some r) :
    exec (.build a c d) s = .next { s with out := .err { reason := r } } := by
  have hrun : exec (.build a c d) s = .next (runBuild a c d s) := congrArg _ (whenIdle_of_idle hidle _)
  have hbuild : buildRequest a c d = .error r := by rw [buildRequest, h]
  rw [hrun, runBuild, hbuild]
  exact congrArg _ (fail_of_idle hidle _)

/-- In IDLE BUILD that gives a frame writes OUT and CRC (R160; log 11). -/
theorem exec_build_of_ok {s : State} {a c : Int} {d : List Int} {f : Bytes} (hidle : s.fsm = .idle)
    (h : buildRequest a c d = .ok f) :
    exec (.build a c d) s = .next { s with out := .ok (.frame f), crc := crc16 (requestBody a c d) } := by
  have hrun : exec (.build a c d) s = .next (runBuild a c d s) := congrArg _ (whenIdle_of_idle hidle _)
  rw [hrun, runBuild, h]
  exact congrArg _ (succeed_of_idle (s := s.useCrc (requestBody a c d)) hidle _)

/-- Settles O12: each check is reached when those before it pass, and the first that fails gives BUILD's error. -/
theorem buildChecksItsRangesInOrder : Obligations.BuildChecksItsRangesInOrder := by
  unfold Obligations.BuildChecksItsRangesInOrder
  have hin {z : Int} (h : 0 ≤ z ∧ z ≤ 255) : inByte z = true := (inByte_iff z).2 h
  have hout {z : Int} (h : ¬(0 ≤ z ∧ z ≤ 255)) : inByte z = false := Bool.eq_false_iff.2 (mt (inByte_iff z).1 h)
  refine ⟨fun s a c d hidle ha => ?_, fun s a c d hidle ha hc => ?_, fun s a c d hidle ha hc hd => ?_⟩ <;>
    apply exec_build_of_error hidle
  · simp [checkRanges, hout ha]
  · simp [checkRanges, hin ha, hout hc]
  · obtain ⟨e, he, hrange⟩ := hd
    have hbad : ∃ x ∈ d, inByte x = false := ⟨e, he, hout hrange⟩
    simpa [checkRanges, hin ha, hin hc] using hbad

/-! ### The round trip (R173) -/

/-- BUILD of operands that are bytes gives the frame of these bytes (R100, R160). -/
theorem buildRequest_byteInt (a c : Byte) (d : Bytes) :
    buildRequest (byteInt a) (byteInt c) (d.map byteInt) = .ok (frame a c d) := by
  have hd : (d.map byteInt).all inByte = true := by simp
  rw [buildRequest_of_ranges (inByte_byteInt a) (inByte_byteInt c) hd, toByte_byteInt, toByte_byteInt,
    map_toByte_map_byteInt]

/-- Settles O13: BUILD answers the frame of the operands, and PARSE of a frame looks at the address alone. -/
theorem parseInvertsBuild : Obligations.ParseInvertsBuild := by
  unfold Obligations.ParseInvertsBuild
  intro s a c d e hidle he
  have hparse : parseFrame (frame a c d) e = .ok (a, c, d) :=
    parseFrame_eq_ok.2 ⟨rfl, (addressMatches_iff a e).2 he⟩
  exact ⟨_, _, _, exec_build_of_ok hidle (buildRequest_byteInt a c d), exec_parse_of_ok hidle hparse⟩

/-! ### PARSE within EXCHANGE (R201, R202) -/

theorem fsmStep_of_parse {s : State} (hf : s.fsm = .parse) : fsmStep s = fsmParse s := by simp [fsmStep, hf]

/-- The payload of a frame is its data (R103). -/
theorem payload_frame (a c : Byte) (d : Bytes) : payload (frame a c d) = d := by
  simp [payload, checkedPart, frame, sealBody, frameBody, crcBytes]

/-- PARSE of a good frame ends EXCHANGE: OUT, STATE and CRC are written (R201; log 11). -/
theorem fsmParse_of_ok {s : State} {a rc : Byte} {p : Bytes}
    (h : parseFrame s.rx (some (byteInt s.addr)) = .ok (a, rc, p)) :
    fsmParse s = { s with fsm := .idle, out := .ok (.response rc p), crc := (s.useCrcToParse s.rx).crc } := by
  rw [fsmParse, h, useCrcToParse_eq]
  rfl

/-- PARSE of a bad one retains its error and leaves the attempt: LASTERR, LASTPE, STATE and CRC are written (R202;
log 11). -/
theorem fsmParse_of_error {s : State} {r : ParseReason} (h : parseFrame s.rx (some (byteInt s.addr)) = .error r) :
    fsmParse s = { s with
      lastErr := some r, lastPe := true, crc := (s.useCrcToParse s.rx).crc
      fsm := if s.att < s.retries + 1 then .discard else .classify } := by
  rw [fsmParse, h, useCrcToParse_eq]
  rfl

/-- Settles O30: a good frame is the frame of its response, and a long string that is none leaves an error that is no
SHORT_FRAME. -/
theorem parseEndsOrRetries : Obligations.ParseEndsOrRetries := by
  unfold Obligations.ParseEndsOrRetries
  intro s hf hlen
  refine ⟨fun a rc p hparse => ?_, fun r hparse => ?_⟩
  · obtain ⟨hrx, -⟩ := parseFrame_eq_ok.1 hparse
    have hrc : rc = s.rx.getD 1 0 := by rw [hrx]; rfl
    have hp : p = payload s.rx := by rw [hrx, payload_frame]
    exact ⟨hrc, hp, _, (fsmStep_of_parse hf).trans (fsmParse_of_ok hparse)⟩
  · have hstep := (fsmStep_of_parse hf).trans (fsmParse_of_error hparse)
    have hreason : r = .badCrc ∨ r = .addrMismatch := by
      have hr : r ≠ .shortFrame := parseFrame_long hlen hparse
      cases r <;> simp at hr ⊢
    exact ⟨hreason, fun hatt => ⟨(s.useCrcToParse s.rx).crc, by rw [hstep, if_pos hatt]⟩,
      fun hatt => ⟨(s.useCrcToParse s.rx).crc, by rw [hstep, if_neg (Nat.not_lt.2 hatt.ge)]⟩⟩

end Sys2Proof.Machine

/-! # EXCHANGE: its transitions, its refusals, and the host operation around it (O23, O26, O29, O31, O32, O47) -/

namespace Sys2Proof.Machine

open Sys2Proof

/-! ### The transitions of R196 -/

theorem fsmStep_of_checkLen {s : State} (hf : s.fsm = .checkLen) : fsmStep s = fsmCheckLen s := by simp [fsmStep, hf]

theorem fsmStep_of_classify {s : State} (hf : s.fsm = .classify) : fsmStep s = fsmClassify s := by simp [fsmStep, hf]

/-- After an attempt that did not succeed: DISCARD or CLASSIFY (R194). -/
theorem nextAttempt_fsm_mem (s : State) {fs : List FsmState} (hdiscard : .discard ∈ fs) (hclassify : .classify ∈ fs) :
    s.nextAttempt.fsm ∈ fs := by
  rcases nextAttempt_cases s with ⟨-, h⟩ | ⟨-, h⟩ <;> rw [h]
  · exact hdiscard
  · exact hclassify

/-- Settles O26: the cases of each transition, one after another. -/
theorem stateMovesByTheTable : Obligations.StateMovesByTheTable := by
  unfold Obligations.StateMovesByTheTable
  intro s
  unfold fsmStep
  cases hf : s.fsm with
  | idle => simp [hf, mayFollow]
  | build => rcases fsmBuild_cases s with ⟨r, -, h⟩ | ⟨f, -, h⟩ <;> simp [h, mayFollow]
  | discard => rcases fsmDiscard_cases s with ⟨-, h⟩ | ⟨-, h⟩ <;> simp [h, mayFollow]
  | write => rcases fsmWrite_cases s with ⟨-, h⟩ | ⟨-, h⟩ <;> simp [h, mayFollow]
  | readHead => rcases fsmReadHead_cases s with ⟨-, h⟩ | ⟨-, k, -, -, h⟩ <;> simp [h, mayFollow]
  | pollAvail => rcases fsmPollAvail_cases s with ⟨-, h⟩ | ⟨-, -, h⟩ | ⟨-, -, h⟩ <;> simp [h, mayFollow]
  | readTail => rcases fsmReadTail_cases s with ⟨-, h⟩ | ⟨-, k, -, -, h⟩ <;> simp [h, mayFollow]
  | checkLen =>
    rcases fsmCheckLen_cases s with ⟨-, h⟩ | ⟨-, h⟩ <;> simp only [h]
    · exact nextAttempt_fsm_mem _ (by decide) (by decide)
    · simp [mayFollow]
  | parse =>
    rcases fsmParse_cases s with ⟨a, rc, p, -, h⟩ | ⟨r, -, h⟩ <;> simp only [h]
    · simp [mayFollow]
    · exact nextAttempt_fsm_mem _ (by decide) (by decide)
  | classify =>
    obtain ⟨info, h, -⟩ := fsmClassify_cases s
    simp [h, mayFollow]

/-- CHECK_LEN of a short attempt: LASTPE and STATE are written (R200). -/
theorem fsmStep_of_short {s : State} (hf : s.fsm = .checkLen) (hlen : s.rx.length < Config.minFrame) :
    fsmStep s = { s with lastPe := false, fsm := if s.att < s.retries + 1 then .discard else .classify } := by
  rw [fsmStep_of_checkLen hf, fsmCheckLen, if_pos hlen]
  rfl

/-- CHECK_LEN of a long attempt: ALLSHORT and STATE are written (R200). -/
theorem fsmStep_of_long {s : State} (hf : s.fsm = .checkLen) (hlen : Config.minFrame ≤ s.rx.length) :
    fsmStep s = { s with allShort := false, fsm := .parse } := by
  rw [fsmStep_of_checkLen hf, fsmCheckLen, if_neg (Nat.not_lt.2 hlen)]
  rfl

/-- Settles O29: the two branches of CHECK_LEN, the first with and without an attempt left. -/
theorem shortAttemptIsRetried : Obligations.ShortAttemptIsRetried := by
  unfold Obligations.ShortAttemptIsRetried
  refine ⟨fun s hf hlen hatt => ?_, fun s hf hlen hatt => ?_, fun s hf hlen => fsmStep_of_long hf hlen⟩
  · rw [fsmStep_of_short hf hlen, if_pos hatt]
  · rw [fsmStep_of_short hf hlen, if_neg (by omega)]

/-- Settles O31: the tests of CLASSIFY, each reached when those before it fail. -/
theorem classificationFollowsItsOrder : Obligations.ClassificationFollowsItsOrder := by
  unfold Obligations.ClassificationFollowsItsOrder
  refine ⟨fun s hf hshort => ?_, fun s hf hshort hpe => ?_, fun s hf hshort hpe herr => ?_⟩ <;>
    rw [fsmStep_of_classify hf, fsmClassify]
  · rw [if_pos hshort]
    rfl
  · rw [if_neg (by simp [hshort]), if_pos hpe]
    rfl
  · rw [if_neg (by simp [hshort]), if_neg (by simp [hpe]), if_pos herr]
    rfl

/-! ### An EXCHANGE that is refused, and one whose operands are no bytes -/

/-- The meaning of EXCHANGE is EXCHANGE. -/
theorem exec_exchange (c : Int) (d : List Int) (m : Nat) (s : State) :
    exec (.exchange c d m) s = .next (exchange c d m s) := rfl

/-- Without an open transport EXCHANGE is refused (R191). -/
theorem exchange_of_not_open {s : State} (hidle : s.fsm = .idle) (hlc : s.lc ≠ .opened) (c : Int) (d : List Int)
    (m : Nat) : exchange c d m s = s.refuse .notOpen := by
  obtain ⟨-, he⟩ := (exchange_cases hidle c d m).resolve_left fun h => hlc h.1
  exact he

/-- Settles O23: the refusal writes OUT and the mark. -/
theorem exchangeNeedsAnOpenTransport : Obligations.ExchangeNeedsAnOpenTransport := by
  unfold Obligations.ExchangeNeedsAnOpenTransport
  intro s c d m hidle hlc
  rw [exec_exchange, exchange_of_not_open hidle hlc]
  rfl

/-- A failed build ends EXCHANGE after its latch (R190, R192). -/
theorem exchange_of_buildRequest_error {s : State} {c : Int} {d : List Int} {r : Reason} (hidle : s.fsm = .idle)
    (hopen : s.lc = .opened) (hbuild : buildRequest (byteInt s.addr) c d = .error r) (m : Nat) :
    exchange c d m s = (s.latchExchange c d m).fail { reason := r } := by
  obtain ⟨-, hrun⟩ := (exchange_cases hidle c d m).resolve_right fun h => h.1 hopen
  have hstep : fsmStep (s.latchExchange c d m) = (s.latchExchange c d m).fail { reason := r } := by
    simp [fsmStep, fsmBuild, hbuild]
  rw [hrun, exchangeBound, runFsm_of_step (by simp) hstep, runFsm_of_idle rfl]

/-- In IDLE the latch and the error write the operand registers and OUT. -/
theorem latchExchange_fail_of_idle {s : State} (hidle : s.fsm = .idle) (c : Int) (d : List Int) (m : Nat) (info : Info) :
    (s.latchExchange c d m).fail info = { s with
      out := .err info, cmd := latchByte c, data := d.map latchByte, minlen := m, opCmd := c, opData := d } := by
  simp [State.latchExchange, State.fail, ← hidle]

theorem inByte_of_range {z : Int} (h : 0 ≤ z ∧ z ≤ 255) : inByte z = true := (inByte_iff z).2 h

theorem inByte_of_not_range {z : Int} (h : ¬(0 ≤ z ∧ z ≤ 255)) : inByte z = false :=
  Bool.eq_false_iff.2 (mt (inByte_iff z).1 h)

/-- ADDR is a byte, so the first check of a request that can fail is the command's (R161, R192). -/
theorem buildRequest_of_bad_command (a : Byte) {c : Int} (hc : inByte c = false) (d : List Int) :
    buildRequest (byteInt a) c d = .error .cmdRange := by
  simp [buildRequest, checkRanges, hc]

/-- The second is the data's. -/
theorem buildRequest_of_bad_data (a : Byte) {c : Int} {d : List Int} (hc : inByte c = true) (hd : d.all inByte = false) :
    buildRequest (byteInt a) c d = .error .dataRange := by
  simp [buildRequest, checkRanges, hc, hd]

/-- Settles O32: the build names the first operand that is no byte, and ends the EXCHANGE. -/
theorem exchangeChecksItsOperandsFirst : Obligations.ExchangeChecksItsOperandsFirst := by
  unfold Obligations.ExchangeChecksItsOperandsFirst
  intro s c d m hidle hopen
  refine ⟨fun hc => ?_, fun hc hd => ?_⟩
  · have hbuild := buildRequest_of_bad_command s.addr (inByte_of_not_range hc) d
    rw [exec_exchange, exchange_of_buildRequest_error hidle hopen hbuild, latchExchange_fail_of_idle hidle]
  · obtain ⟨e, he, hrange⟩ := hd
    have hbad : d.all inByte = false := List.all_eq_false.2 ⟨e, he, by simp [inByte_of_not_range hrange]⟩
    have hbuild := buildRequest_of_bad_data s.addr (inByte_of_range hc) hbad
    rw [exec_exchange, exchange_of_buildRequest_error hidle hopen hbuild, latchExchange_fail_of_idle hidle]

/-! ### Host operations that fail with their EXCHANGE (R260) -/

/-- What a host operation makes of its EXCHANGE: the host's result is written, and where OUT holds no response, it is the
outcome in OUT. -/
def PassesOn (e t : State) : Prop :=
  ∃ res, t = { e with hostOut := res } ∧ ∀ o, exchangeResult e.out = .error o → res = .stopped o

/-- A host operation that takes the response as it is. -/
theorem hostEnd_passesOn (c : Int) (d : List Int) (m : Nat) (s : State) (result : Byte × Bytes → HostResult) :
    PassesOn (exchange c d m s) (hostEnd (hostExchange c d m s) result) := by
  unfold hostExchange
  cases hout : exchangeResult (exchange c d m s).out with
  | ok x => exact ⟨_, rfl, fun o h => nomatch hout.symm.trans h⟩
  | error o => exact ⟨_, rfl, fun o' h => congrArg _ (Except.error.inj (hout.symm.trans h))⟩

/-- A host operation that checks the response. -/
theorem hostEnd_hostCheck_passesOn {α : Type} (c : Int) (d : List Int) (m : Nat) (s : State)
    (check : Byte × Bytes → Except Reason α) (result : α → HostResult) :
    PassesOn (exchange c d m s)
      (hostEnd (hostThen (hostExchange c d m s) fun x t => hostCheck (check x) t) result) := by
  unfold hostExchange
  cases hout : exchangeResult (exchange c d m s).out with
  | ok x =>
    simp only [hostThen]
    cases check x <;> exact ⟨_, rfl, fun o h => nomatch hout.symm.trans h⟩
  | error o => exact ⟨_, rfl, fun o' h => congrArg _ (Except.error.inj (hout.symm.trans h))⟩

/-- Every host operation is the EXCHANGE of its request and passes its failure on (R260, R262 to R267, R275, R276). -/
theorem exec_hostOperation_passesOn {i : Instr} (hi : isHostOperation i = true)
    (hsix : ∀ lvl pw, i = .openSession lvl pw → pw.length = 6) (s : State) :
    ∃ c d t, requestShape i = some (c, d) ∧ exec i s = .next t ∧ PassesOn (exchange c d (minLenOf i s.hostMin) s) t := by
  cases i <;> cases hi <;> refine ⟨_, _, _, rfl, rfl, ?_⟩
  case testLink => exact hostEnd_passesOn _ _ _ s _
  case openSession lvl pw =>
    rw [hostOpenSession_of_six (hsix lvl pw rfl)]
    exact hostEnd_passesOn _ _ _ s _
  case readEnergy group index => exact hostEnd_hostCheck_passesOn _ _ _ s (fun x => energyOf x.1 x.2) _
  case readInfo => exact hostEnd_passesOn _ _ _ s _
  case readRatios => exact hostEnd_passesOn _ _ _ s _
  case readVersion => exact hostEnd_passesOn _ _ _ s _
  case readNetaddr => exact hostEnd_hostCheck_passesOn _ _ _ s (fun x => netaddrOf x.2) _
  case unlockArchive => exact hostEnd_passesOn _ _ _ s _

/-- The command of a request shape is a byte, and with a password of six its data are bytes when the operands fit the
frame (R120). -/
theorem inByte_requestShape {i : Instr} {c : Int} {d : List Int}
    (hsix : ∀ lvl pw, i = .openSession lvl pw → pw.length = 6) (h : requestShape i = some (c, d)) :
    inByte c = true ∧ d.all inByte = i.fitsFrame := by
  cases i with
  | openSession lvl pw =>
    cases h
    exact ⟨rfl, by simp [Instr.fitsFrame, hsix lvl pw rfl]⟩
  | readEnergy group index =>
    cases h
    exact ⟨rfl, by simp [Instr.fitsFrame]⟩
  | testLink | readInfo | readRatios | readVersion | readNetaddr | unlockArchive =>
    cases h
    exact ⟨rfl, rfl⟩
  | configure | checksum | build | parse | exchange | close | reservedOp => cases h

/-- Settles O47: the host's result follows the OUT of the one EXCHANGE, and that of a refused one and of one whose data
are no bytes is known. -/
theorem hostOperationsPassFailuresOn : Obligations.HostOperationsPassFailuresOn := by
  unfold Obligations.HostOperationsPassFailuresOn
  intro s i hi hsix hidle
  obtain ⟨c, d, t, hshape, hexec, res, rfl, hres⟩ := exec_hostOperation_passesOn hi hsix s
  refine ⟨fun hlc => ?_, fun hopen hfits => ?_, _, hexec, fun info hout => ?_⟩
  · have he := exchange_of_not_open hidle hlc c d (minLenOf i s.hostMin)
    have hstopped : res = .stopped (.refused .notOpen) := hres _ (by rw [he]; rfl)
    rw [hexec, hstopped, he]
    rfl
  · obtain ⟨hc, hd⟩ := inByte_requestShape hsix hshape
    have hbuild := buildRequest_of_bad_data s.addr hc (hd.trans hfits)
    have he := exchange_of_buildRequest_error hidle hopen hbuild (minLenOf i s.hostMin)
    have hstopped : res = .stopped (.err { reason := .dataRange }) := hres _ (by rw [he]; rfl)
    refine ⟨_, hexec, ?_, hstopped, ?_, ?_⟩ <;> rw [he] <;> rfl
  · have herr : (exchange c d (minLenOf i s.hostMin) s).out = .err info := hout
    exact hres _ (by rw [herr]; rfl)

end Sys2Proof.Machine

/-! # EXCHANGE over attempts whose answers are given (O33, O34, O35, O36) -/

namespace Sys2Proof.Machine

open Sys2Proof

/-! ### A run to its end -/

/-- A run of transitions goes on where a shorter one stopped. -/
theorem runFsm_add (n k : Nat) (s : State) : runFsm (n + k) s = runFsm k (runFsm n s) := by
  induction n generalizing s with
  | zero => rw [Nat.zero_add, runFsm]
  | succ j ih =>
    by_cases hf : s.fsm = .idle
    · rw [runFsm_of_idle hf, runFsm_of_idle hf, runFsm_of_idle hf]
    · rw [Nat.add_right_comm, runFsm_of_running hf, runFsm_of_running hf, ih]

/-- The state in which the exchange that runs in `s` has ended. -/
def State.completed (s : State) : State := runFsm (transitionsLeft s) s

/-- A run long enough comes to that state. -/
theorem runFsm_eq_completed {n : Nat} {s : State} (h : transitionsLeft s ≤ n) : runFsm n s = s.completed := by
  obtain ⟨k, rfl⟩ := Nat.exists_eq_add_of_le h
  rw [runFsm_add, runFsm_of_idle (runFsm_idle le_rfl), State.completed]

/-- Two states end alike when the runs of one are the runs of the other, some transitions later. -/
theorem completed_of_runs {s t : State} {k : Nat} (h : ∀ n, runFsm (n + k) s = runFsm n t) :
    s.completed = t.completed := by
  rw [← runFsm_eq_completed (show transitionsLeft s ≤ transitionsLeft s + transitionsLeft t + k by omega), h,
    runFsm_eq_completed (by omega)]

theorem completed_of_idle {s : State} (h : s.fsm = .idle) : s.completed = s := runFsm_of_idle h _

theorem completed_of_step {s t : State} (hrun : s.fsm ≠ .idle) (h : fsmStep s = t) : s.completed = t.completed :=
  completed_of_runs (runFsm_of_step hrun h)

/-- CLASSIFY ends the exchange (R205). -/
theorem completed_of_classify {s : State} (hf : s.fsm = .classify) : s.completed = fsmStep s := by
  obtain ⟨info, h, -⟩ := fsmClassify_cases s
  rw [completed_of_step (by simp [hf]) rfl, completed_of_idle (by rw [fsmStep_of_classify hf, h]; rfl)]

/-- With an open transport and operands that are bytes, EXCHANGE is its attempts to their end. -/
theorem exchange_eq_completed {s : State} {c : Int} {d : List Int} (hidle : s.fsm = .idle) (hopen : s.lc = .opened)
    (hc : inByte c = true) (hd : d.all inByte = true) (m : Nat) :
    exchange c d m s = (s.firstAttempt c d m).completed := by
  have hleft : transitionsLeft (s.firstAttempt c d m) = 7 * s.retries + 8 := rfl
  rw [exchange_eq_runFsm_firstAttempt hidle hopen hc hd, runFsm_eq_completed (by omega)]

/-! ### Attempts that fail -/

/-- A long attempt that fails to parse leaves its error, every other attempt none (R200, R202). -/
theorem retainedFailure_append_singleton (addr : Byte) (fs : List Bytes) (f : Bytes) :
    retainedFailure addr (fs ++ [f]) = (parseFailure addr f).or (retainedFailure addr fs) := by
  cases h : parseFailure addr f <;> simp [retainedFailure, h]

theorem lastFailedToParse_append_singleton (addr : Byte) (fs : List Bytes) (f : Bytes) :
    lastFailedToParse addr (fs ++ [f]) = (parseFailure addr f).isSome := by
  simp [lastFailedToParse]

theorem parseFailure_of_short (addr : Byte) {f : Bytes} (h : f.length < 4) : parseFailure addr f = none := if_pos h

theorem parseFailure_of_error {addr : Byte} {f : Bytes} {r : ParseReason} (hlen : 4 ≤ f.length)
    (h : parseFrame f (some (byteInt addr)) = .error r) : parseFailure addr f = some r := by
  rw [parseFailure, if_neg (Nat.not_lt.2 hlen), attemptError, ← byteInt, h]

/-- A short attempt is no success. -/
theorem attemptError_of_short (addr : Byte) {f : Bytes} (h : f.length < 4) : attemptError addr f ≠ none := by
  rw [attemptError, parseFrame_short h]
  nofun

/-- An attempt that failed has an error of PARSE. -/
theorem parseFrame_of_attemptError {addr : Byte} {f : Bytes} (h : attemptError addr f ≠ none) :
    ∃ r, parseFrame f (some (byteInt addr)) = .error r := by
  unfold attemptError at h
  rw [← byteInt] at h
  cases hparse : parseFrame f (some (byteInt addr)) with
  | error r => exact ⟨r, rfl⟩
  | ok x => simp [hparse] at h

/-- An attempt with given answers, from its discard to the end of its receive phase. -/
theorem completed_of_attempt {s : State} {a : Attempt} {rest : List Draw} (hf : s.fsm = .discard)
    (hin : s.inputs = a.draws ++ rest) (hok : noneFails a.draws) : s.completed = (s.afterAttempt a rest).completed :=
  completed_of_runs (runFsm_attempt hf hin hok)

/-- A good frame received ends the exchange (R201). -/
theorem completed_of_goodFrame {s : State} {a rc : Byte} {p : Bytes} (hf : s.fsm = .checkLen)
    (hparse : parseFrame s.rx (some (byteInt s.addr)) = .ok (a, rc, p)) :
    s.completed = (s.noteLong.useCrcToParse s.rx).succeed (.response rc p) := by
  rw [← runFsm_of_goodFrame hf hparse (transitionsLeft s), runFsm_eq_completed (by omega)]

/-- An attempt that failed, from the end of its receive phase to the next attempt or the classification (R200, R202). -/
theorem completed_of_failure {s : State} (hf : s.fsm = .checkLen) (hfail : attemptError s.addr s.rx ≠ none) :
    ∃ x : Word16, s.completed = State.completed { s with
      fsm := if s.att < s.retries + 1 then .discard else .classify
      allShort := s.allShort && decide (s.rx.length < 4)
      lastErr := (parseFailure s.addr s.rx).or s.lastErr
      lastPe := (parseFailure s.addr s.rx).isSome
      crc := x } := by
  by_cases hlen : s.rx.length < 4
  · refine ⟨s.crc, ?_⟩
    rw [completed_of_step (by simp [hf]) (fsmStep_of_short hf hlen), parseFailure_of_short _ hlen]
    simp [hlen]
  · obtain ⟨r, hparse⟩ := parseFrame_of_attemptError hfail
    have hlong : 4 ≤ s.rx.length := Nat.le_of_not_lt hlen
    have hparsed := (fsmStep_of_parse (s := { s with allShort := false, fsm := .parse }) rfl).trans
      (fsmParse_of_error hparse)
    refine ⟨crc16 (checkedPart s.rx), ?_⟩
    rw [completed_of_step (by simp [hf]) (fsmStep_of_long hf hlong), completed_of_step (by simp) hparsed,
      useCrcToParse_crc_long _ hlong, parseFailure_of_error hlong hparse]
    simp [hlen]

/-- The state after attempts with given answers that all failed, begun in `s` as the first of an EXCHANGE. RX, PENDING,
CRC and the count polled are what the last of them left. -/
def State.afterFailures (s : State) (as : List Attempt) (rest : List Draw) (rx pending : Bytes) (crc : Word16)
    (availN : Nat) : State :=
  { s with
    fsm := if as.length < s.retries + 1 then .discard else .classify
    att := as.length
    lastRaw := ((as.map fun a => a.delivers s.minlen).getLast?).getD s.lastRaw
    allShort := (as.map fun a => a.delivers s.minlen).all fun f => decide (f.length < 4)
    lastErr := retainedFailure s.addr (as.map fun a => a.delivers s.minlen)
    lastPe := lastFailedToParse s.addr (as.map fun a => a.delivers s.minlen)
    tx := s.tx ++ (List.replicate as.length s.req).flatten
    calls := s.calls ++ as.flatMap fun a => attemptCalls s.req s.minlen a.poll.count
    inputs := rest
    rx, pending, crc, availN }

/-- The answers of several attempts are those of all but the last and then those of the last. -/
theorem attempted_append_singleton {s : State} {as : List Attempt} {a : Attempt} {rest : List Draw} :
    attempted s (as ++ [a]) rest ↔ attempted s as (a.draws ++ rest) ∧ noneFails a.draws := by
  simp [attempted, or_imp, forall_and, and_assoc]

/-- One failure more. -/
theorem completed_afterFailures {s : State} {as : List Attempt} {a : Attempt} {rest : List Draw} {rx pending : Bytes}
    {crc : Word16} {availN : Nat} (hlen : as.length < s.retries + 1) (hok : noneFails a.draws)
    (hfail : attemptError s.addr (a.delivers s.minlen) ≠ none) :
    ∃ rx' pending' crc' availN',
      (s.afterFailures as (a.draws ++ rest) rx pending crc availN).completed =
        (s.afterFailures (as ++ [a]) rest rx' pending' crc' availN').completed := by
  have hreceive := completed_of_attempt (s := s.afterFailures as (a.draws ++ rest) rx pending crc availN) (if_pos hlen)
    rfl hok
  obtain ⟨x, hnext⟩ := completed_of_failure
    (s := (s.afterFailures as (a.draws ++ rest) rx pending crc availN).afterAttempt a rest) rfl hfail
  refine ⟨a.delivers s.minlen, a.leaves s.minlen, x, a.poll.count, hreceive.trans (hnext.trans (congrArg _ ?_))⟩
  simp [State.afterFailures, State.afterAttempt, retainedFailure_append_singleton, lastFailedToParse_append_singleton,
    List.replicate_succ']

/-- An EXCHANGE comes to the state after its failed attempts. -/
theorem firstAttempt_completed {s : State} {c : Int} {d : List Int} {m : Nat} {as : List Attempt} {rest : List Draw}
    (hlen : as.length ≤ s.retries + 1) (hatt : attempted s as rest)
    (hfail : ∀ a ∈ as, attemptError s.addr (a.delivers m) ≠ none) :
    ∃ rx pending crc availN, (s.firstAttempt c d m).completed =
      ((s.firstAttempt c d m).afterFailures as rest rx pending crc availN).completed := by
  induction as using List.reverseRecOn generalizing rest with
  | nil =>
    obtain rfl : s.inputs = rest := by simpa [attempted] using hatt
    refine ⟨s.rx, s.pending, (s.firstAttempt c d m).crc, s.availN, congrArg State.completed ?_⟩
    simp [State.afterFailures, State.firstAttempt, retainedFailure, lastFailedToParse]
  | append_singleton as a ih =>
    obtain ⟨hatt, hok⟩ := attempted_append_singleton.1 hatt
    rw [List.length_append, List.length_singleton] at hlen
    rw [List.forall_mem_append, List.forall_mem_singleton] at hfail
    obtain ⟨hearlier, hfails⟩ := hfail
    obtain ⟨rx, pending, crc, availN, hbefore⟩ := ih (by omega) hatt hearlier
    obtain ⟨rx', pending', crc', availN', hlast⟩ := completed_afterFailures (s := s.firstAttempt c d m) (by exact hlen)
      hok hfails
    exact ⟨_, _, _, _, hbefore.trans hlast⟩

/-! ### EXCHANGE whose every attempt fails, and one that ends with a good reply -/

theorem all_inByte_of_range {d : List Int} (h : ∀ e ∈ d, 0 ≤ e ∧ e ≤ 255) : d.all inByte = true :=
  List.all_eq_true.2 fun e he => inByte_of_range (h e he)

/-- CMD holds a command that is a byte (R39). -/
theorem latchByte_of_inByte {z : Int} (h : inByte z = true) : latchByte z = BitVec.ofInt 8 z := if_pos h

/-- DATA holds data that are bytes (R39). -/
theorem map_latchByte_of_inByte {d : List Int} (h : d.all inByte = true) :
    d.map latchByte = d.map (BitVec.ofInt 8) :=
  List.map_congr_left fun e he => latchByte_of_inByte (List.all_eq_true.1 h e he)

/-- The state in which an EXCHANGE is classified whose RETRIES + 1 attempts all failed: `fs` are the strings received
before the last attempt, `f` is the one it received, and `rest` are the answers left. -/
structure Exhausted (s : State) (c : Int) (d : List Int) (fs : List Bytes) (f : Bytes) (rest : List Draw) (t : State) :
    Prop where
  fsm : t.fsm = .classify
  addr : t.addr = s.addr
  cmd : t.cmd = BitVec.ofInt 8 c
  att : t.att = s.retries + 1
  allShort : t.allShort = (fs.all (fun g => decide (g.length < 4)) && decide (f.length < 4))
  lastErr : t.lastErr = (parseFailure s.addr f).or (retainedFailure s.addr fs)
  lastPe : t.lastPe = (parseFailure s.addr f).isSome
  lastRaw : t.lastRaw = f
  inputs : t.inputs = rest
  tx : t.tx = s.tx ++
    (List.replicate (s.retries + 1) (frame s.addr (BitVec.ofInt 8 c) (d.map (BitVec.ofInt 8)))).flatten

/-- EXCHANGE whose RETRIES + 1 attempts all fail comes to its classification (R194, R205). -/
theorem exchange_of_failures {s : State} {c : Int} {d : List Int} {m : Nat} {before : List Attempt} {last : Attempt}
    {rest : List Draw} (hidle : s.fsm = .idle) (hopen : s.lc = .opened) (hc : 0 ≤ c ∧ c ≤ 255)
    (hd : ∀ e ∈ d, 0 ≤ e ∧ e ≤ 255) (hbefore : before.length = s.retries) (hatt : attempted s (before ++ [last]) rest)
    (hfail : ∀ a ∈ before ++ [last], attemptError s.addr (a.delivers m) ≠ none) :
    ∃ t, exchange c d m s = fsmStep t ∧
      Exhausted s c d (before.map fun a => a.delivers m) (last.delivers m) rest t := by
  have hlen : (before ++ [last]).length = s.retries + 1 := by simp [hbefore]
  obtain ⟨rx, pending, crc, availN, h⟩ := firstAttempt_completed (c := c) (d := d) hlen.le hatt hfail
  have hf : ((s.firstAttempt c d m).afterFailures (before ++ [last]) rest rx pending crc availN).fsm = .classify :=
    if_neg (by rw [hlen]; exact lt_irrefl _)
  refine ⟨_, ?_, ⟨hf, rfl, latchByte_of_inByte (inByte_of_range hc), hlen, ?_, ?_, ?_, ?_, rfl, ?_⟩⟩
  · rw [exchange_eq_completed hidle hopen (inByte_of_range hc) (all_inByte_of_range hd), h, completed_of_classify hf]
  · simp [State.afterFailures, State.firstAttempt]
  · simp [State.afterFailures, State.firstAttempt, retainedFailure_append_singleton]
  · simp [State.afterFailures, State.firstAttempt, lastFailedToParse_append_singleton]
  · simp [State.afterFailures, State.firstAttempt]
  · rw [← hlen]
    rfl

/-- Settles O34: no attempt leaves an error, so the first test of CLASSIFY holds. -/
theorem silentTransportGivesNoResponse : Obligations.SilentTransportGivesNoResponse := by
  unfold Obligations.SilentTransportGivesNoResponse
  intro s c d m before last rest hidle hopen hc0 hc1 hd hbefore hatt hshort
  obtain ⟨t, he, ht⟩ := exchange_of_failures hidle hopen ⟨hc0, hc1⟩ hd hbefore hatt fun a ha =>
    attemptError_of_short s.addr (hshort a ha)
  rw [List.forall_mem_append, List.forall_mem_singleton] at hshort
  obtain ⟨hearlier, hlast⟩ := hshort
  have hnone : retainedFailure s.addr (before.map fun a => a.delivers m) = none := by
    rw [retainedFailure, List.filterMap_eq_nil_iff.2, List.getLast?_nil]
    exact List.forall_mem_map.2 fun a ha => parseFailure_of_short s.addr (hearlier a ha)
  have hall : t.allShort = true := by
    rw [ht.allShort]
    simpa [hlast] using hearlier
  have herr : t.lastErr = none := by rw [ht.lastErr, parseFailure_of_short _ hlast, hnone, Option.or_none]
  have hpe : t.lastPe = false := by rw [ht.lastPe, parseFailure_of_short _ hlast, Option.isSome_none]
  obtain ⟨hsilent, -, -⟩ := classificationFollowsItsOrder
  rw [hsilent t ht.fsm hall] at he
  refine ⟨_, exec_exchange c d m s, ?_⟩
  rw [he]
  exact ⟨by simp only [ht.addr, ht.cmd, ht.att], ht.att, rfl, herr, hpe, hall, ht.lastRaw, ht.inputs, ht.tx⟩

/-- Settles O35: the last attempt leaves its error and sets LASTPE, so the second test of CLASSIFY is the first to
hold. -/
theorem corruptedRepliesGiveFinalParse : Obligations.CorruptedRepliesGiveFinalParse := by
  unfold Obligations.CorruptedRepliesGiveFinalParse
  intro s c d m before last r rest hidle hopen hc0 hc1 hd hbefore hatt hfail hlong hparse
  have hlast : parseFailure s.addr (last.delivers m) = some r := parseFailure_of_error hlong hparse
  have herror : attemptError s.addr (last.delivers m) ≠ none := by simp [attemptError, hparse]
  obtain ⟨t, he, ht⟩ := exchange_of_failures hidle hopen ⟨hc0, hc1⟩ hd hbefore hatt
    (List.forall_mem_append.2 ⟨hfail, List.forall_mem_singleton.2 herror⟩)
  have hall : t.allShort = false := by rw [ht.allShort, decide_eq_false (Nat.not_lt.2 hlong), Bool.and_false]
  have herr : t.lastErr = some r := by rw [ht.lastErr, hlast, Option.some_or]
  have hpe : t.lastPe = true := by rw [ht.lastPe, hlast, Option.isSome_some]
  obtain ⟨-, hfinal, -⟩ := classificationFollowsItsOrder
  rw [hfinal t ht.fsm hall hpe] at he
  refine ⟨_, exec_exchange c d m s, ?_⟩
  rw [he]
  exact ⟨by simp only [ht.addr, ht.cmd, ht.att, ht.lastRaw, herr], ht.att, rfl, herr, hpe, hall, ht.lastRaw,
    ht.inputs, ht.tx⟩

/-- A retained failure is that of a long attempt. -/
theorem exists_long_of_retainedFailure {addr : Byte} {fs : List Bytes} {r : ParseReason}
    (h : retainedFailure addr fs = some r) : ∃ f ∈ fs, ¬f.length < 4 := by
  obtain ⟨f, hf, hfailure⟩ := List.mem_filterMap.1 (List.mem_of_getLast? h)
  exact ⟨f, hf, fun hshort => by simp [parseFailure_of_short addr hshort] at hfailure⟩

/-- Settles O36: the last attempt clears LASTPE and keeps the error an earlier one left, so the third test of CLASSIFY is
the first to hold. -/
theorem earlierParseFailureIsRetained : Obligations.EarlierParseFailureIsRetained := by
  unfold Obligations.EarlierParseFailureIsRetained
  intro s c d m before last r rest hidle hopen hc0 hc1 hd hbefore hatt hfail hlast hretained
  obtain ⟨t, he, ht⟩ := exchange_of_failures hidle hopen ⟨hc0, hc1⟩ hd hbefore hatt
    (List.forall_mem_append.2 ⟨hfail, List.forall_mem_singleton.2 (attemptError_of_short s.addr hlast)⟩)
  obtain ⟨f, hf, hlong⟩ := exists_long_of_retainedFailure hretained
  have hall : t.allShort = false := by
    rw [ht.allShort, List.all_eq_false.2 ⟨f, hf, by simpa using hlong⟩, Bool.false_and]
  have herr : t.lastErr = some r := by rw [ht.lastErr, parseFailure_of_short _ hlast, Option.none_or, hretained]
  have hpe : t.lastPe = false := by rw [ht.lastPe, parseFailure_of_short _ hlast, Option.isSome_none]
  obtain ⟨-, -, hretain⟩ := classificationFollowsItsOrder
  rw [hretain t ht.fsm hall hpe (by simp [herr])] at he
  refine ⟨_, exec_exchange c d m s, ?_⟩
  rw [he]
  exact ⟨by simp only [ht.addr, ht.cmd, ht.att, ht.lastRaw, herr], ht.att, rfl, herr, hpe, hall, ht.lastRaw,
    ht.inputs, ht.tx⟩

/-- Settles O33: the attempts before the good one all fail, and the good one ends the EXCHANGE. -/
theorem exchangeAnswersAGoodReply : Obligations.ExchangeAnswersAGoodReply := by
  unfold Obligations.ExchangeAnswersAGoodReply
  intro s c d m before good rest a rc pl hidle hopen hc0 hc1 hd hbefore hatt hfail hparse
  have hc : inByte c = true := inByte_of_range ⟨hc0, hc1⟩
  have hdata : d.all inByte = true := all_inByte_of_range hd
  obtain ⟨hatt, hok⟩ := attempted_append_singleton.1 hatt
  obtain ⟨rx, pending, crc, availN, h⟩ := firstAttempt_completed (c := c) (d := d) (by omega) hatt hfail
  have he := exchange_eq_completed hidle hopen hc hdata m
  rw [h, completed_of_attempt (if_pos (Nat.lt_succ_of_le hbefore)) rfl hok, completed_of_goodFrame rfl hparse,
    useCrcToParse_eq] at he
  refine ⟨_, exec_exchange c d m s, ?_⟩
  rw [he]
  refine ⟨rfl, rfl, rfl, latchByte_of_inByte hc, map_latchByte_of_inByte hdata, rfl, rfl, ?_, rfl, rfl, rfl, rfl, rfl, ?_,
    rfl⟩
  · simp [State.afterFailures, State.afterAttempt, State.firstAttempt, List.replicate_succ']
  · simp [State.afterFailures, State.afterAttempt, State.firstAttempt]

end Sys2Proof.Machine

/-! # EXCHANGE with any environment: its outcomes, its attempts and its calls (O38, O39, O40) -/

namespace Sys2Proof.Machine

open Sys2Proof

/-! ### The calls of an EXCHANGE, against the answers of its environment -/

/-- One finished attempt more. -/
theorem exchangeCalls_succ (s : State) (req : Bytes) (m n : Nat) :
    exchangeCalls s req m (n + 1) = exchangeCalls s req m n ++ attemptCalls req m (polledIn s n) := by
  simp [exchangeCalls, List.range_succ]

/-- A finished attempt uses up one answer per call. -/
theorem attemptStart_succ (s : State) (req : Bytes) (m n : Nat) :
    attemptStart s (n + 1) = attemptStart s n + (attemptCalls req m (polledIn s n)).length := by
  rw [attemptStart, ← polledIn, attemptCalls]
  split <;> rfl

/-- What stands between `s`, in which an EXCHANGE was issued, and `t`: the calls of `n` finished attempts, `part` of one
more, and `sent` request frames on the transmit stream. The answers left are those that follow. -/
structure Transcript (s : State) (req : Bytes) (m n : Nat) (part : List TransportCall) (sent : Nat) (t : State) :
    Prop where
  calls : t.calls = s.calls ++ exchangeCalls s req m n ++ part
  tx : t.tx = s.tx ++ (List.replicate sent req).flatten
  answers : ∀ k, t.answer k = s.answer (attemptStart s n + part.length + k)

namespace Transcript

variable {s t : State} {req : Bytes} {m n sent : Nat} {part : List TransportCall}

/-- The environment's next answer in `t`, as an answer from `s` on. -/
theorem nextDraw (h : Transcript s req m n part sent t) : t.nextDraw = s.answer (attemptStart s n + part.length) := by
  rw [← answer_zero, h.answers, Nat.add_zero]

/-- One call more. -/
theorem callTransport (h : Transcript s req m n part sent t) (c : TransportCall) :
    Transcript s req m n (part ++ [c]) sent (t.callTransport c) where
  calls := by rw [State.callTransport_calls, h.calls, List.append_assoc]
  tx := h.tx
  answers k := by
    rw [callTransport_answer, h.answers, List.length_append, List.length_singleton]
    congr 1
    omega

/-- The request frame written (R198). -/
theorem writeRequest (h : Transcript s req m n part sent t) {x : Bytes} (hx : x = t.tx ++ req) :
    Transcript s req m n part (sent + 1) { t with tx := x } where
  calls := h.calls
  tx := by simp [hx, h.tx, List.replicate_succ']
  answers := h.answers

/-- The attempt in progress finished. -/
theorem finish (h : Transcript s req m n part sent t) (hpart : part = attemptCalls req m (polledIn s n)) :
    Transcript s req m (n + 1) [] sent t where
  calls := by rw [h.calls, hpart, exchangeCalls_succ, List.append_nil, List.append_assoc]
  tx := h.tx
  answers k := by rw [h.answers, attemptStart_succ s req m, hpart, List.length_nil, Nat.add_zero]

end Transcript

/-! ### An EXCHANGE in progress -/

/-- ATT in each state of an EXCHANGE past its build (R194, R195). -/
def attAllowed (retries : Nat) (f : FsmState) (n : Nat) : Prop :=
  match f with
  | .idle | .build => False
  | .discard | .write | .readHead | .pollAvail | .readTail => n ≤ retries
  | .checkLen | .parse => 1 ≤ n ∧ n ≤ retries + 1
  | .classify => n = retries + 1

/-- The calls the attempt in progress has made (R213). -/
def callsInProgress (req : Bytes) (m : Nat) (f : FsmState) : List TransportCall :=
  match f with
  | .write => [.discard]
  | .readHead => [.discard, .write req]
  | .pollAvail => [.discard, .write req, .read m]
  | .readTail => [.discard, .write req, .read m, .avail]
  | .idle | .build | .discard | .checkLen | .parse | .classify => []

/-- How many request frames the attempt in progress has sent. -/
def sentInProgress (f : FsmState) : Nat :=
  match f with
  | .readHead | .pollAvail | .readTail => 1
  | .idle | .build | .discard | .write | .checkLen | .parse | .classify => 0

theorem attAllowed_of_receiving {f : FsmState} (hf : receiving f = true) (r n : Nat) : attAllowed r f n ↔ n ≤ r := by
  cases f <;> cases hf <;> exact Iff.rfl

/-- `t` is a state of an EXCHANGE that was issued in `s` and whose build gave `req`. -/
structure Attempting (s : State) (req : Bytes) (m : Nat) (t : State) : Prop where
  retries : t.retries = s.retries
  req_built : t.req = req
  minlen : t.minlen = m
  att : attAllowed s.retries t.fsm t.att
  /-- A long attempt that did not succeed left its error (R209). -/
  error_kept : t.fsm ≠ .parse → t.allShort = false → t.lastErr ≠ none
  /-- READ_TAIL follows a poll above 0, and asks for its count (R199). -/
  polled : t.fsm = .readTail → t.availN = polledIn s t.att ∧ 0 < t.availN
  transcript : Transcript s req m t.att (callsInProgress req m t.fsm) (t.att + sentInProgress t.fsm) t

/-- How an EXCHANGE that passed its build ends: with a response, by the classification, or at an I/O error after a part of
the calls of an attempt (R214). -/
inductive Ending (s : State) (req : Bytes) (m : Nat) (t : State) : Prop
  | succeeded (rc : Byte) (p : Bytes) (hout : t.out = .ok (.response rc p)) (hatt : 1 ≤ t.att ∧ t.att ≤ s.retries + 1)
      (htranscript : Transcript s req m t.att [] t.att t)
  | classified (info : Info) (hout : t.out = .err info)
      (hreason : info.reason = .silent ∨ info.reason = .finalParse ∨ info.reason = .retainedParse)
      (hatt : t.att = s.retries + 1) (htranscript : Transcript s req m t.att [] t.att t)
  | aborted (info : Info) (part : List TransportCall) (hout : t.out = .err info)
      (hreason : info.reason = .ioDiscard ∨ info.reason = .ioWrite ∨ info.reason = .ioRead ∨ info.reason = .ioAvail)
      (hatt : t.att ≤ s.retries) (hpart : part ≠ []) (hprefix : part <+: attemptCalls req m (polledIn s t.att))
      (htranscript : Transcript s req m t.att part (if 2 < part.length then t.att + 1 else t.att) t)

/-- An EXCHANGE past its build, in progress or ended. -/
inductive InExchange (s : State) (req : Bytes) (m : Nat) (t : State) : Prop
  | attempting (h : Attempting s req m t)
  | ended (hidle : t.fsm = .idle) (hreq : t.req = req) (hend : Ending s req m t)

namespace Attempting

variable {s t : State} {req : Bytes} {m : Nat}

/-- EXCHANGE begins its first attempt with nothing called and nothing sent (R193). -/
theorem firstAttempt (s : State) (c : Int) (d : List Int) (m : Nat) :
    Attempting s (frame s.addr (toByte c) (d.map toByte)) m (s.firstAttempt c d m) where
  retries := rfl
  req_built := rfl
  minlen := rfl
  att := Nat.zero_le _
  error_kept := nofun
  polled := nofun
  transcript :=
    { calls := by simp [State.firstAttempt, exchangeCalls, callsInProgress]
      tx := by simp [State.firstAttempt, sentInProgress]
      answers := fun k => by
        have hstart : attemptStart s 0 + (callsInProgress (frame s.addr (toByte c) (d.map toByte)) m .discard).length + k =
          k := Nat.zero_add k
        exact congrArg s.answer hstart.symm }

/-- What a poll answers in `t` is what it answers in that attempt. -/
theorem polledIn_eq (h : Attempting s req m t) (hf : t.fsm = .pollAvail) : polledIn s t.att = t.nextDraw.count := by
  rw [h.transcript.nextDraw, hf]
  rfl

/-- An I/O error ends the EXCHANGE (R203). -/
theorem abort (h : Attempting s req m t) (hs : receiving t.fsm = true) (c : TransportCall)
    (hc : callsInProgress req m t.fsm ++ [c] <+: attemptCalls req m (polledIn s t.att)) {reason : Reason}
    (hreason : reason = .ioDiscard ∨ reason = .ioWrite ∨ reason = .ioRead ∨ reason = .ioAvail) (raw : Bytes) :
    InExchange s req m ((t.callTransport c).abort reason raw) := by
  have hsent : t.att + sentInProgress t.fsm =
      if 2 < (callsInProgress req m t.fsm ++ [c]).length then t.att + 1 else t.att := by
    cases t.fsm <;> rfl
  have htranscript := h.transcript.callTransport c
  rw [hsent] at htranscript
  exact .ended rfl h.req_built <| .aborted _ _ rfl hreason ((attAllowed_of_receiving hs _ _).1 h.att) (by simp) hc
    ⟨htranscript.calls, htranscript.tx, htranscript.answers⟩

/-- From one state of the receive phase to the next: one call more. RX, PENDING and the count polled are free. -/
theorem receive (h : Attempting s req m t) (hs : receiving t.fsm = true) {c : TransportCall} {f : FsmState}
    (hf : receiving f = true) (hcalls : callsInProgress req m f = callsInProgress req m t.fsm ++ [c])
    (hsent : sentInProgress f = sentInProgress t.fsm) (p r : Bytes) {n : Nat}
    (hpolled : f = .readTail → n = polledIn s t.att ∧ 0 < n) :
    Attempting s req m { t.callTransport c with pending := p, rx := r, availN := n, fsm := f } :=
  have htranscript := h.transcript.callTransport c
  { h with
    att := (attAllowed_of_receiving hf _ _).2 ((attAllowed_of_receiving hs _ _).1 h.att)
    error_kept := fun _ => h.error_kept (receiving_ne_parse hs)
    polled := hpolled
    transcript :=
      { calls := by rw [hcalls]; exact htranscript.calls
        tx := by rw [hsent]; exact htranscript.tx
        answers := by rw [hcalls]; exact htranscript.answers } }

/-- WRITE sends the request frame (R198). -/
theorem sendRequest (h : Attempting s req m t) (hf : t.fsm = .write) :
    Attempting s req m { t.callTransport (.write req) with tx := t.tx ++ req, rx := [], fsm := .readHead } := by
  have hallowed := h.att
  have htranscript := h.transcript
  have hkept := h.error_kept (by simp [hf])
  rw [hf] at hallowed htranscript
  have hwritten := (htranscript.callTransport (.write req)).writeRequest (x := t.tx ++ req) rfl
  exact { h with
    att := hallowed
    error_kept := fun _ => hkept
    polled := nofun
    transcript := ⟨hwritten.calls, hwritten.tx, hwritten.answers⟩ }

/-- The end of the receive phase: the attempt is counted with the calls it made (R199). -/
theorem endReceive (h : Attempting s req m t) (hf : t.fsm = .pollAvail ∨ t.fsm = .readTail) {c : TransportCall}
    (hcalls : callsInProgress req m t.fsm ++ [c] = attemptCalls req m (polledIn s t.att)) (p r : Bytes) (n : Nat) :
    Attempting s req m ({ t.callTransport c with pending := p, rx := r, availN := n }).endReceive := by
  have hatt : t.att ≤ s.retries := by
    have hallowed := h.att
    rcases hf with hf | hf <;> rwa [hf] at hallowed
  have hkept : t.allShort = false → t.lastErr ≠ none := h.error_kept (by rcases hf with hf | hf <;> simp [hf])
  have hsent : t.att + sentInProgress t.fsm = t.att + 1 := by rcases hf with hf | hf <;> rw [hf] <;> rfl
  have htranscript := (h.transcript.callTransport c).finish hcalls
  rw [hsent] at htranscript
  exact { h with
    att := ⟨Nat.le_add_left 1 t.att, Nat.succ_le_succ hatt⟩
    error_kept := fun _ => hkept
    polled := nofun
    transcript := ⟨htranscript.calls, htranscript.tx, htranscript.answers⟩ }

/-- The CRC register is none of the controller's. -/
theorem setCrc (h : Attempting s req m t) (x : Word16) : Attempting s req m { t with crc := x } :=
  { h with transcript := ⟨h.transcript.calls, h.transcript.tx, h.transcript.answers⟩ }

/-- A short attempt keeps LASTERR (R200). -/
theorem noteShort (h : Attempting s req m t) : Attempting s req m t.noteShort :=
  { h with transcript := ⟨h.transcript.calls, h.transcript.tx, h.transcript.answers⟩ }

/-- A parse failure leaves its error (R202). -/
theorem noteParseError (h : Attempting s req m t) (r : ParseReason) : Attempting s req m (t.noteParseError r) :=
  { h with
    error_kept := nofun
    transcript := ⟨h.transcript.calls, h.transcript.tx, h.transcript.answers⟩ }

/-- A received string of four bytes or more is parsed (R200). -/
theorem noteLong (h : Attempting s req m t) (hf : t.fsm = .checkLen) :
    Attempting s req m { t.noteLong with fsm := .parse } := by
  have hallowed := h.att
  have htranscript := h.transcript
  rw [hf] at hallowed htranscript
  exact { h with
    att := hallowed
    error_kept := fun hp => absurd rfl hp
    polled := nofun
    transcript := ⟨htranscript.calls, htranscript.tx, htranscript.answers⟩ }

/-- After an attempt that left its error, if it was a long one: another attempt, or the classification of all
RETRIES + 1 (R194, R196). -/
theorem nextAttempt (h : Attempting s req m t) (hf : t.fsm = .checkLen ∨ t.fsm = .parse)
    (herr : t.allShort = false → t.lastErr ≠ none) : Attempting s req m t.nextAttempt := by
  have hatt : 1 ≤ t.att ∧ t.att ≤ s.retries + 1 := by
    have hallowed := h.att
    rcases hf with hf | hf <;> rwa [hf] at hallowed
  have htranscript : Transcript s req m t.att [] t.att t := by
    have hkept := h.transcript
    rcases hf with hf | hf <;> rwa [hf] at hkept
  have hretries := h.retries
  rcases nextAttempt_cases t with ⟨hleft, he⟩ | ⟨hnone, he⟩ <;> rw [he]
  · exact { h with
      att := hretries ▸ hleft
      error_kept := fun _ => herr
      polled := nofun
      transcript := ⟨htranscript.calls, htranscript.tx, htranscript.answers⟩ }
  · exact { h with
      att := by
        show t.att = s.retries + 1
        omega
      error_kept := fun _ => herr
      polled := nofun
      transcript := ⟨htranscript.calls, htranscript.tx, htranscript.answers⟩ }

/-- PARSE ends the EXCHANGE with its response, or retains an error (R201, R202). -/
theorem fsmParse (h : Attempting s req m t) (hf : t.fsm = .parse) : InExchange s req m (fsmParse t) := by
  have hallowed := h.att
  have htranscript := h.transcript
  rw [hf] at hallowed htranscript
  rcases fsmParse_cases t with ⟨a, rc, p, -, he⟩ | ⟨r, -, he⟩ <;> rw [he, useCrcToParse_eq]
  · exact .ended rfl h.req_built <|
      .succeeded rc p rfl hallowed ⟨htranscript.calls, htranscript.tx, htranscript.answers⟩
  · exact .attempting (((h.setCrc _).noteParseError r).nextAttempt (.inr hf) nofun)

/-- CLASSIFY ends the EXCHANGE, and never with FALLBACK: a long attempt left its error (R205, R209). -/
theorem fsmClassify (h : Attempting s req m t) (hf : t.fsm = .classify) : InExchange s req m (fsmClassify t) := by
  have hallowed := h.att
  have htranscript := h.transcript
  have hkept := h.error_kept (by simp [hf])
  rw [hf] at hallowed htranscript
  obtain ⟨info, he, hreason⟩ := fsmClassify_cases t
  have hlisted : info.reason = .silent ∨ info.reason = .finalParse ∨ info.reason = .retainedParse := by
    rcases hreason with hr | hr | hr | ⟨-, hlong, hnone⟩
    · exact .inl hr
    · exact .inr (.inl hr)
    · exact .inr (.inr hr)
    · exact absurd hnone (hkept hlong)
  rw [he]
  exact .ended rfl h.req_built <|
    .classified info rfl hlisted hallowed ⟨htranscript.calls, htranscript.tx, htranscript.answers⟩

/-- The calls of an attempt up to its poll are the first four (R213). -/
theorem prefix_attemptCalls (part : List TransportCall) (n : Nat)
    (h : part <+: [.discard, .write req, .read m, .avail]) : part <+: attemptCalls req m n :=
  h.trans (List.prefix_append _ _)

/-- Every transition of an EXCHANGE past its build leads to such a state again, or ends it. -/
theorem fsmStep (h : Attempting s req m t) : InExchange s req m (fsmStep t) := by
  have hallowed := h.att
  unfold Machine.fsmStep
  cases hf : t.fsm with
  | idle | build => simp [hf, attAllowed] at hallowed
  | discard =>
    have hs : receiving t.fsm = true := by rw [hf]; rfl
    rcases fsmDiscard_cases t with ⟨-, he⟩ | ⟨-, he⟩ <;> rw [he]
    · exact h.abort hs .discard (by rw [hf]; exact prefix_attemptCalls _ _ (by simp [callsInProgress])) (by simp) _
    · exact .attempting (h.receive hs rfl (by rw [hf]; rfl) (by rw [hf]; rfl) _ _ nofun)
  | write =>
    have hs : receiving t.fsm = true := by rw [hf]; rfl
    rcases fsmWrite_cases t with ⟨-, he⟩ | ⟨-, he⟩ <;> rw [he, h.req_built]
    · exact h.abort hs _ (by rw [hf]; exact prefix_attemptCalls _ _ (by simp [callsInProgress])) (by simp) _
    · exact .attempting (h.sendRequest hf)
  | readHead =>
    have hs : receiving t.fsm = true := by rw [hf]; rfl
    rcases fsmReadHead_cases t with ⟨-, he⟩ | ⟨-, k, -, -, he⟩ <;> rw [he, h.minlen]
    · exact h.abort hs _ (by rw [hf]; exact prefix_attemptCalls _ _ (by simp [callsInProgress])) (by simp) _
    · exact .attempting (h.receive hs rfl (by rw [hf]; rfl) (by rw [hf]; rfl) _ _ nofun)
  | pollAvail =>
    have hs : receiving t.fsm = true := by rw [hf]; rfl
    have hpolled := h.polledIn_eq hf
    rcases fsmPollAvail_cases t with ⟨-, he⟩ | ⟨-, hpos, he⟩ | ⟨-, hzero, he⟩ <;> rw [he]
    · exact h.abort hs _ (by rw [hf]; exact prefix_attemptCalls _ _ (by simp [callsInProgress])) (by simp) _
    · exact .attempting (h.receive hs rfl (by rw [hf]; rfl) (by rw [hf]; rfl) _ _ fun _ => ⟨hpolled.symm, hpos⟩)
    · exact .attempting (h.endReceive (.inl hf) (by rw [hf, hpolled, hzero]; rfl) _ _ _)
  | readTail =>
    have hs : receiving t.fsm = true := by rw [hf]; rfl
    obtain ⟨hcount, hpos⟩ := h.polled hf
    have hcalls : callsInProgress req m t.fsm ++ [.read t.availN] = attemptCalls req m (polledIn s t.att) := by
      rw [hf, attemptCalls, ← hcount, if_pos hpos]
      rfl
    rcases fsmReadTail_cases t with ⟨-, he⟩ | ⟨-, k, -, -, he⟩ <;> rw [he]
    · exact h.abort hs _ (hcalls ▸ List.prefix_rfl) (by simp) _
    · exact .attempting (h.endReceive (.inr hf) hcalls _ _ _)
  | checkLen =>
    rcases fsmCheckLen_cases t with ⟨-, he⟩ | ⟨-, he⟩ <;> rw [he]
    · exact .attempting (h.noteShort.nextAttempt (.inl hf) (h.error_kept (by simp [hf])))
    · exact .attempting (h.noteLong hf)
  | parse => exact h.fsmParse hf
  | classify => exact h.fsmClassify hf

end Attempting

/-! ### How an EXCHANGE ends -/

/-- With an open transport and operands that are bytes, EXCHANGE has built its request and ended in one of the ways of
R214. -/
theorem exchange_ending {s : State} {c : Int} {d : List Int} (hidle : s.fsm = .idle) (hopen : s.lc = .opened)
    (hc : inByte c = true) (hd : d.all inByte = true) (m : Nat) :
    (exchange c d m s).req = frame s.addr (toByte c) (d.map toByte) ∧
      Ending s (frame s.addr (toByte c) (d.map toByte)) m (exchange c d m s) := by
  have hin : InExchange s (frame s.addr (toByte c) (d.map toByte)) m (exchange c d m s) := by
    rw [exchange_eq_completed hidle hopen hc hd]
    refine runFsm_keeps (fun t hrun ht => ?_) _ _ (.attempting (.firstAttempt s c d m))
    cases ht with
    | attempting h => exact h.fsmStep
    | ended hidle => exact absurd hidle hrun
  cases hin with
  | attempting h =>
    have hallowed := h.att
    rw [exchange_idle hidle] at hallowed
    exact hallowed.elim
  | ended _ hreq hend => exact ⟨hreq, hend⟩

/-- With an open transport EXCHANGE ends with the reason its build failed for, or as an EXCHANGE past its build. -/
theorem exchange_opened_cases {s : State} (hidle : s.fsm = .idle) (hopen : s.lc = .opened) (c : Int) (d : List Int)
    (m : Nat) :
    (∃ r, (r = .cmdRange ∨ r = .dataRange) ∧ (exchange c d m s).out = .err { reason := r }) ∨
      ∃ req, Ending s req m (exchange c d m s) := by
  cases hc : inByte c with
  | false =>
    have he := exchange_of_buildRequest_error hidle hopen (buildRequest_of_bad_command s.addr hc d) m
    exact .inl ⟨_, .inl rfl, by rw [he, State.fail_out]⟩
  | true =>
    cases hd : d.all inByte with
    | false =>
      have he := exchange_of_buildRequest_error hidle hopen (buildRequest_of_bad_data s.addr hc hd) m
      exact .inl ⟨_, .inr rfl, by rw [he, State.fail_out]⟩
    | true => exact .inr ⟨_, (exchange_ending hidle hopen hc hd m).2⟩

/-- With an open transport EXCHANGE leaves REFUSED_MARK. -/
theorem exchange_refusedMark_of_opened {s : State} (hidle : s.fsm = .idle) (hopen : s.lc = .opened) (c : Int)
    (d : List Int) (m : Nat) : (exchange c d m s).refusedMark = s.refusedMark := by
  obtain ⟨-, he⟩ := (exchange_cases hidle c d m).resolve_right fun h => h.1 hopen
  rw [he]
  exact runFsm_keeps (P := fun t => t.refusedMark = s.refusedMark) (fun t _ ht => (fsmStep_refusedMark t).trans ht) _ _
    rfl

/-- Settles O38: each way an EXCHANGE ends is one of R214's. -/
theorem exchangeOutcomesAreTheListed : Obligations.ExchangeOutcomesAreTheListed := by
  unfold Obligations.ExchangeOutcomesAreTheListed
  intro s c d m hidle hopen
  refine ⟨_, exec_exchange c d m s, ?_, exchange_refusedMark_of_opened hidle hopen c d m⟩
  rcases exchange_opened_cases hidle hopen c d m with ⟨r, hr, hout⟩ | ⟨req, hend⟩
  · rcases hr with rfl | rfl <;> rw [hout] <;> rfl
  · cases hend with
    | succeeded rc p hout => rw [hout]; rfl
    | classified info hout hreason => rcases hreason with hr | hr | hr <;> simp [hout, exchangeOutcome, hr]
    | aborted info part hout hreason => rcases hreason with hr | hr | hr | hr <;> simp [hout, exchangeOutcome, hr]

/-- Settles O39: ATT at each way an EXCHANGE ends. -/
theorem attemptCountIsBounded : Obligations.AttemptCountIsBounded := by
  unfold Obligations.AttemptCountIsBounded
  intro s c d m hidle hopen
  refine ⟨_, exec_exchange c d m s, ?_⟩
  rcases exchange_opened_cases hidle hopen c d m with ⟨r, hr, hout⟩ | ⟨req, hend⟩
  · rcases hr with rfl | rfl <;> simp [hout, ioOutcome]
  · cases hend with
    | succeeded rc p hout hatt => simp [hout, ioOutcome, hatt]
    | classified info hout hreason hatt => rcases hreason with hr | hr | hr <;> simp [hout, ioOutcome, hr, hatt]
    | aborted info part hout hreason hatt => rcases hreason with hr | hr | hr | hr <;> simp [hout, ioOutcome, hr, hatt]

/-- Settles O40: the transcript at each way an EXCHANGE ends. -/
theorem eachAttemptMakesItsCalls : Obligations.EachAttemptMakesItsCalls := by
  unfold Obligations.EachAttemptMakesItsCalls
  intro s c d m hidle hopen hc0 hc1 hd
  obtain ⟨hreq, hend⟩ := exchange_ending hidle hopen (inByte_of_range ⟨hc0, hc1⟩) (all_inByte_of_range hd) m
  refine ⟨_, exec_exchange c d m s, hreq, ?_⟩
  rw [hreq]
  cases hend with
  | succeeded rc p hout hatt htranscript =>
    refine ⟨fun _ => ⟨by simpa using htranscript.calls, htranscript.tx⟩, fun hio => ?_⟩
    simp [hout, ioOutcome] at hio
  | classified info hout hreason hatt htranscript =>
    refine ⟨fun _ => ⟨by simpa using htranscript.calls, htranscript.tx⟩, fun hio => ?_⟩
    rcases hreason with hr | hr | hr <;> simp [hout, ioOutcome, hr] at hio
  | aborted info part hout hreason hatt hpart hprefix htranscript =>
    refine ⟨fun hio => ?_, fun _ => ⟨part, hpart, hprefix, htranscript.calls, htranscript.tx⟩⟩
    rcases hreason with hr | hr | hr | hr <;> simp [hout, ioOutcome, hr] at hio

end Sys2Proof.Machine

/-! # CONFIGURE and CLOSE: the operands' domains, the order of the checks, the transport (O19 to O22) -/

namespace Sys2Proof.Machine

open Sys2Proof

/-! ### CLOSE -/

/-- In IDLE CLOSE runs. -/
theorem exec_close_of_idle {s : State} (hidle : s.fsm = .idle) : exec .close s = .next (runClose s) :=
  congrArg _ (whenIdle_of_idle hidle _)

/-- Settles O22: the two branches of CLOSE. -/
theorem closeReleasesOnce : Obligations.CloseReleasesOnce := by
  unfold Obligations.CloseReleasesOnce
  refine ⟨fun s hidle hopen => ?_, fun s hidle hlc => ?_⟩
  · rw [exec_close_of_idle hidle, runClose, if_pos hopen]
    exact congrArg _ (succeed_of_idle (s := { transportClose s with lc := .closed }) hidle _)
  · rw [exec_close_of_idle hidle, runClose, if_neg hlc, succeed_of_idle hidle]

/-! ### The address operand (R241) -/

/-- The ASCII digits are the bytes 0x30 to 0x39. -/
theorem isDigit_iff (b : Byte) : isDigit b = true ↔ 0x30 ≤ b.toNat ∧ b.toNat ≤ 0x39 := by
  simp [isDigit]

/-- The value of a numeral is that of its digits, the last one first. -/
theorem decimalValue_eq_ofDigits (t : Text) :
    decimalValue t = Nat.ofDigits 10 (t.reverse.map fun b => b.toNat - 0x30) := by
  rw [Nat.ofDigits_eq_foldr, List.foldr_map, List.foldr_reverse]
  simp only [decimalValue, Nat.add_comm, Nat.cast_id]

/-- An integer is an address when it is a byte. -/
theorem decodeAddress_intCast (z : Int) :
    decodeAddress (.num z) = if 0 ≤ z ∧ z ≤ 255 then .ok (BitVec.ofInt 8 z) else .error .addrRange := by
  simp [decodeAddress, isInteger, inByte_iff, toByte]

/-- A number that is no integer is no address. -/
theorem decodeAddress_of_den_ne_one {q : Rat} (h : q.den ≠ 1) : decodeAddress (.num q) = .error .addrText := by
  simp [decodeAddress, isInteger, h]

/-- A numeral is an address when its value is a byte. -/
theorem decodeAddress_of_digits {t : Text} (hne : t ≠ []) (hdigits : ∀ b ∈ t, isDigit b = true) :
    decodeAddress (.text t) =
      if decimalValue t ≤ 255 then .ok (BitVec.ofNat 8 (decimalValue t)) else .error .addrRange := by
  have hall : t.all isDigit = true := List.all_eq_true.2 hdigits
  simp [decodeAddress, hne, hall]

/-- The empty text is no address. -/
theorem decodeAddress_nil : decodeAddress (.text []) = .error .addrText := rfl

/-- A text with a byte that is no digit is no address. -/
theorem decodeAddress_of_not_digit {t : Text} {b : Byte} (hb : b ∈ t) (hdigit : ¬isDigit b = true) :
    decodeAddress (.text t) = .error .addrText := by
  have hne : t ≠ [] := List.ne_nil_of_mem hb
  have hall : t.all isDigit = false := List.all_eq_false.2 ⟨b, hb, hdigit⟩
  simp [decodeAddress, hne, hall]

/-- Settles O19: the cases of decodeAddress, one after another. -/
theorem addressOperandIsDecoded : Obligations.AddressOperandIsDecoded := by
  unfold Obligations.AddressOperandIsDecoded
  refine ⟨decodeAddress_intCast, fun q => decodeAddress_of_den_ne_one, fun t hne hdigits => ?_, fun t ht => ?_, rfl⟩
  · rw [← decimalValue_eq_ofDigits]
    exact decodeAddress_of_digits hne fun b hb => (isDigit_iff b).2 (hdigits b hb)
  · rcases ht with rfl | ⟨b, hb, hdigit⟩
    · exact decodeAddress_nil
    · exact decodeAddress_of_not_digit hb (mt (isDigit_iff b).1 hdigit)

/-! ### The other operands (R242) -/

/-- A name other than the two kinds' is no kind (log 27). -/
theorem decodeKind_of_other_name {name : Text} (hserial : name ≠ kindSerialText) (htcp : name ≠ kindTcpText) :
    decodeKind (.named name) = .error .badKind := by
  simp [decodeKind, hserial, htcp]

/-- Either kind is named by itself or by its name (log 27). -/
theorem decodeKind_of_domain {karg : KindArg} {k : TransportKind}
    (h : ((karg = .serial ∨ karg = .named kindSerialText) ∧ k = .serial) ∨
      ((karg = .tcp ∨ karg = .named kindTcpText) ∧ k = .tcp)) : decodeKind karg = .ok k := by
  rcases h with ⟨rfl | rfl, rfl⟩ | ⟨rfl | rfl, rfl⟩
  · rfl
  · simp [decodeKind]
  · rfl
  · have hne : kindTcpText ≠ kindSerialText := by decide
    simp [decodeKind, hne]

/-- A natural number is a retry count. -/
theorem decodeRetries_natCast (n : Nat) : decodeRetries (.num n) = .ok n := by
  simp [decodeRetries, isInteger]

/-- A rational with denominator 1 and a numerator that is not negative is a natural number. -/
theorem eq_natCast_of_den_eq_one {q : Rat} (hden : q.den = 1) (hnum : 0 ≤ q.num) : q = (q.num.toNat : Rat) := by
  have hq : (q.num : Rat) = q := (Rat.den_eq_one_iff q).1 hden
  have hn : (q.num.toNat : Int) = q.num := Int.toNat_of_nonneg hnum
  calc q = (q.num : Rat) := hq.symm
    _ = ((q.num.toNat : Int) : Rat) := by rw [hn]
    _ = (q.num.toNat : Rat) := Int.cast_natCast _

/-- Nothing else is one. -/
theorem decodeRetries_of_not_natCast {x : HostValue} (h : ∀ n : Nat, x ≠ .num n) :
    decodeRetries x = .error .retriesRange := by
  cases x with
  | num q =>
    have hbad : ¬(q.den = 1 ∧ 0 ≤ q.num) := fun ⟨hden, hnum⟩ =>
      h q.num.toNat (congrArg _ (eq_natCast_of_den_eq_one hden hnum))
    simpa [decodeRetries, isInteger] using hbad
  | text t => rfl
  | other => rfl

/-- A timeout may be any number that is not negative. -/
theorem decodeTimeout_of_nonneg {t : Rat} (h : 0 ≤ t) : decodeTimeout t = .ok t :=
  if_neg (Int.not_lt.2 (Rat.num_nonneg.2 h))

/-- A negative timeout is none. -/
theorem decodeTimeout_of_neg {t : Rat} (h : t < 0) : decodeTimeout t = .error .timeoutRange :=
  if_pos (Rat.num_neg.2 h)

/-! ### CONFIGURE -/

section

variable {s : State} {karg : KindArg} {address retries : HostValue} {timeout : Rat} {p : OpenParams}

/-- In IDLE CONFIGURE runs. -/
theorem exec_configure_of_idle (hidle : s.fsm = .idle) :
    exec (.configure karg address timeout retries p) s = .next (runConfigure karg address timeout retries p s) :=
  congrArg _ (whenIdle_of_idle hidle _)

/-- A second CONFIGURE is refused (R240). -/
theorem exec_configure_of_configured (hidle : s.fsm = .idle) (hlc : s.lc ≠ .unconfigured) :
    exec (.configure karg address timeout retries p) s =
      .next { s with out := .refused .alreadyConfigured, refusedMark := true } := by
  rw [exec_configure_of_idle hidle, runConfigure, if_neg hlc, State.refuse]

/-- A check that fails writes OUT only: nothing was opened yet (R240). -/
theorem exec_configure_of_check_error {r : Reason} (hidle : s.fsm = .idle) (hlc : s.lc = .unconfigured)
    (h : checkConfig karg address timeout retries = .error r) :
    exec (.configure karg address timeout retries p) s = .next { s with out := .err { reason := r } } := by
  rw [exec_configure_of_idle hidle, runConfigure, if_pos hlc, h]
  exact congrArg _ (fail_of_idle hidle _)

/-- Checks that pass give the configuration of the operands. -/
theorem checkConfig_of_ok {a : Byte} {k : TransportKind} {n : Nat} (haddress : decodeAddress address = .ok a)
    (hkind : decodeKind karg = .ok k) (hretries : decodeRetries retries = .ok n) (htimeout : 0 ≤ timeout) :
    checkConfig karg address timeout retries = .ok ⟨a, k, n, timeout⟩ := by
  simp [checkConfig, haddress, hkind, hretries, decodeTimeout_of_nonneg htimeout]

/-- An open that succeeds leaves the state after its call, with the configuration loaded (R240, R243). -/
theorem exec_configure_of_open {c : Configuration} (hidle : s.fsm = .idle) (hlc : s.lc = .unconfigured)
    (h : checkConfig karg address timeout retries = .ok c) (hopen : s.nextDraw.fails = false) :
    exec (.configure karg address timeout retries p) s =
      .next { (s.callTransport (.connect c.kind p)).loadConfig c p with out := .ok .unit } := by
  obtain ⟨-, ht⟩ := (transportOpen_cases c.kind p s).resolve_left (by simp [hopen])
  rw [exec_configure_of_idle hidle, runConfigure, if_pos hlc, h]
  simp only [ht]
  exact congrArg _ (succeed_of_idle (s := (s.callTransport (.connect c.kind p)).loadConfig c p) hidle _)

/-- An open that fails leaves the state after its call, with nothing loaded (R243). -/
theorem exec_configure_of_open_error {c : Configuration} (hidle : s.fsm = .idle) (hlc : s.lc = .unconfigured)
    (h : checkConfig karg address timeout retries = .ok c) (hopen : s.nextDraw.fails = true) :
    exec (.configure karg address timeout retries p) s =
      .next { s.callTransport (.connect c.kind p) with out := .err { reason := .ioOpen } } := by
  obtain ⟨-, ht⟩ := (transportOpen_cases c.kind p s).resolve_right (by simp [hopen])
  rw [exec_configure_of_idle hidle, runConfigure, if_pos hlc, h]
  simp only [ht]
  exact congrArg _ (fail_of_idle (s := s.callTransport (.connect c.kind p)) hidle _)

end

/-- Settles O20: the checks pass, and the open succeeds or fails. -/
theorem configureOpensTheTransport : Obligations.ConfigureOpensTheTransport := by
  unfold Obligations.ConfigureOpensTheTransport
  intro s karg k address a timeout n p hidle hlc hkarg haddress htimeout
  have hcheck : checkConfig karg address timeout (.num n) = .ok ⟨a, k, n, timeout⟩ :=
    checkConfig_of_ok haddress (decodeKind_of_domain hkarg) (decodeRetries_natCast n) htimeout
  exact ⟨exec_configure_of_open hidle hlc hcheck, exec_configure_of_open_error hidle hlc hcheck⟩

/-- Settles O21: each check is reached when those before it pass, and the first that fails ends CONFIGURE. -/
theorem configureChecksItsOperandsInOrder : Obligations.ConfigureChecksItsOperandsInOrder := by
  unfold Obligations.ConfigureChecksItsOperandsInOrder
  intro s karg address retries timeout p hidle
  refine ⟨exec_configure_of_configured hidle, fun r hlc haddress => ?_, fun a name hlc haddress hname hserial htcp => ?_,
    fun a k hlc haddress hkind hretries => ?_, fun a k n hlc haddress hkind hretries htimeout => ?_⟩ <;>
    apply exec_configure_of_check_error hidle hlc
  · simp [checkConfig, haddress]
  · simp [checkConfig, haddress, hname, decodeKind_of_other_name hserial htcp]
  · simp [checkConfig, haddress, hkind, decodeRetries_of_not_natCast hretries]
  · simp [checkConfig, haddress, hkind, hretries, decodeRetries_natCast, decodeTimeout_of_neg htimeout]

end Sys2Proof.Machine

/-! # The host profile's decoders: energy blocks, the build date, the serial number (O53, O54, O55) -/

namespace Sys2Proof.Machine

open Sys2Proof

/-! ### DECODE (R280) -/

/-- A block of another length is rejected before anything else. -/
theorem decodeEnergy_of_length_ne {blk : Bytes} (h : blk.length ≠ 4) (rc : Byte) :
    decodeEnergy rc blk = .error .badBlockLen := by
  unfold decodeEnergy
  split
  · exact absurd rfl h
  · rfl

/-- Two bytes side by side, as a number. -/
theorem shiftLeft_or_toNat (hi lo : Byte) : hi.toNat <<< 8 ||| lo.toNat = 256 * hi.toNat + lo.toNat := by
  have hlo : lo.toNat < 2 ^ 8 := lo.isLt
  rw [← Nat.shiftLeft_add_eq_or_of_lt hlo, Nat.shiftLeft_eq]
  omega

/-- Three bytes side by side, as a number. -/
theorem shiftLeft_or_shiftLeft_or_toNat (hi mid lo : Byte) :
    hi.toNat <<< 16 ||| (mid.toNat <<< 8 ||| lo.toNat) = 65536 * hi.toNat + 256 * mid.toNat + lo.toNat := by
  have hlow : 256 * mid.toNat + lo.toNat < 2 ^ 16 := by omega
  rw [shiftLeft_or_toNat, ← Nat.shiftLeft_add_eq_or_of_lt hlow, Nat.shiftLeft_eq]
  omega

/-- Settles O53: the tests of the four-byte branches are on bytes as numbers, and the bytes of a value do not
overlap. -/
theorem energyDecoderBranches : Obligations.EnergyDecoderBranches := by
  unfold Obligations.EnergyDecoderBranches
  refine ⟨fun rc blk h => decodeEnergy_of_length_ne h rc, fun rc b0 b1 b2 b3 => ?_⟩
  have hzero (b : Byte) : b = 0 ↔ b.toNat = 0 := BitVec.toNat_inj.symm
  have hfull : b3 ≠ 0xFF ↔ b3.toNat ≠ 255 := not_congr BitVec.toNat_inj.symm
  simp only [decodeEnergy, shiftLeft_or_shiftLeft_or_toNat, shiftLeft_or_toNat b3, hzero, hfull]
  split_ifs <;> rfl

/-! ### BUILD_DATE (R272, R273) -/

/-- A leap year is one divisible by 4 that is no century, or divisible by 400 (R273). -/
theorem isLeapYear_iff (y : Nat) : isLeapYear y = true ↔ y % 4 = 0 ∧ (y % 100 ≠ 0 ∨ y % 400 = 0) := by
  simp [isLeapYear]

/-- The days of a month that exists (R273). -/
theorem daysInMonth_of_month {m : Nat} (hpos : 1 ≤ m) (hle : m ≤ 12) (y : Nat) :
    daysInMonth y m = if m = 2 then (if y % 4 = 0 ∧ (y % 100 ≠ 0 ∨ y % 400 = 0) then 29 else 28)
      else if m = 4 ∨ m = 6 ∨ m = 9 ∨ m = 11 then 30 else 31 := by
  simp only [← isLeapYear_iff]
  interval_cases m <;> rfl

/-- A date is a month and one of its days (R273). -/
theorem validDate_iff (y m d : Nat) :
    validDate y m d = true ↔ 1 ≤ m ∧ m ≤ 12 ∧ 1 ≤ d ∧
      d ≤ (if m = 2 then (if y % 4 = 0 ∧ (y % 100 ≠ 0 ∨ y % 400 = 0) then 29 else 28)
        else if m = 4 ∨ m = 6 ∨ m = 9 ∨ m = 11 then 30 else 31) := by
  simp only [validDate, Bool.and_eq_true, decide_eq_true_eq, and_assoc]
  refine and_congr_right fun hpos => and_congr_right fun hle => ?_
  rw [daysInMonth_of_month hpos hle]

theorem buildDate_of_short {p : Bytes} (h : p.length < 3) : buildDate p = none := by
  rw [← List.length_reverse] at h
  unfold buildDate
  match p.reverse, h with
  | [], _ | [_], _ | [_, _], _ => rfl

/-- The last three bytes of a payload are tested as a date (R272). -/
theorem buildDate_append (front : Bytes) (dd mm yy : Byte) :
    buildDate (front ++ [dd, mm, yy]) = if validDate (2000 + yy.toNat) mm.toNat dd.toNat then
      some ⟨2000 + yy.toNat, mm.toNat, dd.toNat⟩ else none := by
  simp [buildDate]

/-- Settles O54: the last three bytes are taken, and they are a date when the month has that day. -/
theorem buildDateIsACalendarDate : Obligations.BuildDateIsACalendarDate := by
  unfold Obligations.BuildDateIsACalendarDate
  refine ⟨fun p => buildDate_of_short, fun front dd mm yy => ?_⟩
  rw [buildDate_append]
  simp only [validDate_iff]

/-! ### SERIAL (R271) -/

theorem serialText_of_short {p : Bytes} (h : p.length < 3) (rc : Byte) : serialText rc p = none := by
  match p, h with
  | [], _ | [_], _ | [_, _], _ => rfl

/-- The decimal digits of a byte, with zeros in front up to two (R271). -/
theorem decimalTwo_eq (b : Byte) : decimalTwo b = (List.leftpad 2 0 (Nat.digits 10 b.toNat).reverse).map digit := by
  have hb : b.toNat < 256 := b.isLt
  unfold decimalTwo
  generalize b.toNat = n at hb
  rcases Nat.eq_zero_or_pos n with rfl | hpos
  · rfl
  by_cases hten : n < 10
  · have hdigits : Nat.digits 10 n = [n] := Nat.digits_of_lt 10 n hpos.ne' hten
    simp [hdigits, List.leftpad, show n < 100 by omega, Nat.div_eq_of_lt hten, Nat.mod_eq_of_lt hten]
  by_cases hhundred : n < 100
  · have hdigits : Nat.digits 10 n = [n % 10, n / 10] := by
      rw [Nat.digits_def' (by decide) hpos, Nat.digits_of_lt 10 (n / 10) (by omega) (by omega)]
    simp [hdigits, List.leftpad, hhundred]
  · have hdigits : Nat.digits 10 n = [n % 10, n / 10 % 10, n / 100] := by
      rw [Nat.digits_def' (by decide) hpos, Nat.digits_def' (by decide) (by omega),
        Nat.digits_of_lt 10 (n / 10 / 10) (by omega) (by omega), Nat.div_div_eq_div_mul]
    simp [hdigits, List.leftpad, hhundred]

/-- Settles O55: four bytes in decimal, one after another. -/
theorem serialNumberIsDecimalText : Obligations.SerialNumberIsDecimalText := by
  unfold Obligations.SerialNumberIsDecimalText
  refine ⟨fun rc p h => serialText_of_short h rc, fun rc b0 b1 b2 rest => ?_⟩
  simp only [serialText, decimalTwo_eq, List.flatMap_cons, List.flatMap_nil, List.append_nil]
  rfl

end Sys2Proof.Machine

/-! # Host operations: checks at once, BUSY, and the decoded reply (O24, O49, O50, O51) -/

namespace Sys2Proof.Machine

open Sys2Proof

/-! ### Requests answered without an EXCHANGE -/

/-- OPEN_SESSION with another password length presents no EXCHANGE (R263). -/
theorem hostOpenSession_of_length_ne {pw : List Int} (h : pw.length ≠ 6) (lvl : Int) (s : State) :
    hostOpenSession lvl pw s = (.error (.err { reason := .passwordLen }), s) :=
  if_neg h

/-- READ_ENERGY_MONTH with a month out of range prepares nothing (R278). -/
theorem hostEnergyMonth_of_out_of_range {m : Int} (h : ¬(1 ≤ m ∧ m ≤ 12)) (s : State) :
    hostEnergyMonth m s = (.error (.err { reason := .monthRange }), s) :=
  if_neg h

/-- Settles O51: the two host-side checks, each ahead of the first EXCHANGE. -/
theorem hostChecksComeBeforeAnyExchange : Obligations.HostChecksComeBeforeAnyExchange := by
  unfold Obligations.HostChecksComeBeforeAnyExchange
  refine ⟨fun s lvl pw hlen => ?_, fun s m rest hidle hreq hmonth => ?_⟩
  · rw [exec, execOpenSession, hostOpenSession_of_length_ne hlen]
    rfl
  · have hfetch : fetch s = .sequence (.readEnergyMonth m) := fetch_of_requests hreq
    rw [step_of_sequence hidle hfetch, popRequest_of_requests hreq, runSequence, hostEnergyMonth_of_out_of_range hmonth]
    rfl

/-- Settles O24: the refusal of a block operation, and that of the EXCHANGE of a host operation. -/
theorem runningExchangeRefusesRequests : Obligations.RunningExchangeRefusesRequests := by
  unfold Obligations.RunningExchangeRefusesRequests
  refine ⟨fun s i hi hrun => ?_, fun s i hi hsix hrun => ?_⟩
  · cases i <;> cases hi <;> exact congrArg _ (whenIdle_of_busy hrun _)
  · obtain ⟨c, d, t, -, hexec, res, rfl, hres⟩ := exec_hostOperation_passesOn hi hsix s
    have he : exchange c d (minLenOf i s.hostMin) s = s.refuse .busy := whenIdle_of_busy hrun _
    have hstopped : res = .stopped (.refused .busy) := hres _ (by rw [he]; rfl)
    rw [hexec, hstopped, he]
    rfl

/-! ### The branches of the payload decoders (R264 to R267, R276) -/

theorem versionOf_of_three {p : Bytes} (h : 3 ≤ p.length) (rc : Byte) :
    versionOf rc p = some ⟨p.getD 0 0, p.getD 1 0, p.getD 2 0⟩ := by
  match p, h with
  | _ :: _ :: _ :: _, _ => rfl

theorem versionOf_of_two {p : Bytes} (h : p.length = 2) (rc : Byte) :
    versionOf rc p = some ⟨rc, p.getD 0 0, p.getD 1 0⟩ := by
  match p, h with
  | [_, _], _ => rfl

theorem versionOf_of_short {p : Bytes} (h : p.length < 2) (rc : Byte) : versionOf rc p = none := by
  match p, h with
  | [], _ | [_], _ => rfl

/-- Two bytes in little-endian order, as the number they are (R270). -/
theorem le16_eq_ofNat (lo hi : Byte) : le16 lo hi = BitVec.ofNat 16 (lo.toNat + 256 * hi.toNat) := by
  rw [← le16_toNat, BitVec.ofNat_toNat, BitVec.setWidth_eq]

theorem ratiosOf_of_three {p : Bytes} (h : 3 ≤ p.length) :
    ratiosOf p = ⟨some (BitVec.ofNat 16 ((p.getD 0 0).toNat + 256 * (p.getD 1 0).toNat)), some (p.getD 2 0), p⟩ := by
  match p, h with
  | b0 :: b1 :: _ :: _, _ =>
    rw [ratiosOf, le16_eq_ofNat]
    rfl

theorem ratiosOf_of_short {p : Bytes} (h : p.length < 3) : ratiosOf p = ⟨none, none, p⟩ := by
  match p, h with
  | [], _ | [_], _ | [_, _], _ => rfl

theorem netaddrOf_of_ne_nil {p : Bytes} (h : p ≠ []) : netaddrOf p = .ok (p.getD 0 0) := by
  cases p with
  | nil => exact absurd rfl h
  | cons b rest => rfl

/-- DECODE of four bytes gives a value (R280). -/
theorem decodeEnergy_of_four (rc b0 b1 b2 b3 : Byte) : ∃ v, decodeEnergy rc [b0, b1, b2, b3] = .ok v := by
  obtain ⟨-, hfour⟩ := energyDecoderBranches
  exact ⟨_, hfour rc b0 b1 b2 b3⟩

theorem energyOf_of_short {p : Bytes} (h : p.length < 12) (rc : Byte) : energyOf rc p = .error .shortPayload := if_pos h

/-- At least twelve payload bytes give a reading (R276). -/
theorem energyOf_of_twelve {p : Bytes} (h : 12 ≤ p.length) (rc : Byte) :
    ∃ active reactive, decodeEnergy rc [p.getD 0 0, p.getD 1 0, p.getD 2 0, p.getD 3 0] = .ok active ∧
      decodeEnergy rc [p.getD 8 0, p.getD 9 0, p.getD 10 0, p.getD 11 0] = .ok reactive ∧
      energyOf rc p = .ok ⟨active, reactive, p⟩ := by
  match p, h with
  | b0 :: b1 :: b2 :: b3 :: b4 :: b5 :: b6 :: b7 :: b8 :: b9 :: b10 :: b11 :: rest, h =>
    obtain ⟨active, hactive⟩ := decodeEnergy_of_four rc b0 b1 b2 b3
    obtain ⟨reactive, hreactive⟩ := decodeEnergy_of_four rc b8 b9 b10 b11
    refine ⟨active, reactive, hactive, hreactive, ?_⟩
    rw [energyOf, if_neg (Nat.not_lt.2 h)]
    simp [hactive, hreactive]

/-! ### What a host operation makes of its response -/

/-- What the host makes of a checked response: its value, or the error of the check (R260, R264, R276). -/
def checkedResult {α : Type} (x : Except Reason α) (result : α → HostResult) : HostOutcome :=
  match x with
  | .ok a => .ok (result a)
  | .error r => .stopped (.err { reason := r })

/-- The host's result of each host operation, from its response (R262 to R267, R275, R276); OK(unit) for the block's own
operations, which have none. -/
def replyResult (i : Instr) (rc : Byte) (p : Bytes) : HostOutcome :=
  match i with
  | .readInfo => .ok (.infoBlock rc p)
  | .readVersion => .ok (.version (versionOf rc p))
  | .readRatios => .ok (.ratios (ratiosOf p))
  | .readNetaddr => checkedResult (netaddrOf p) .netaddr
  | .readEnergy _ _ => checkedResult (energyOf rc p) .energy
  | .testLink | .openSession _ _ | .unlockArchive => .ok .unit
  | .configure _ _ _ _ _ | .checksum _ | .build _ _ _ | .parse _ _ | .exchange _ _ _ | .close | .reservedOp _ =>
    .ok .unit

/-- A host operation that takes the response as it is ends with its value. -/
theorem hostEnd_of_ok {α : Type} {x : HostStep α} {a : α} {t : State} (h : x = (.ok a, t)) (result : α → HostResult) :
    hostEnd x result = { t with hostOut := .ok (result a) } := by
  rw [h, hostEnd]

/-- One that checks the response ends with the value or the error of the check. -/
theorem hostEnd_hostCheck_of_ok {α β : Type} {x : HostStep α} {a : α} {t : State} (h : x = (.ok a, t))
    (check : α → Except Reason β) (result : β → HostResult) :
    hostEnd (hostThen x fun a t => hostCheck (check a) t) result =
      { t with hostOut := checkedResult (check a) result } := by
  rw [h, hostThen]
  cases check a <;> rfl

/-- A host operation that read a response keeps what it makes of it, and changes nothing else. -/
theorem exec_of_response {s t : State} {i : Instr} {c : Int} {d : List Int} {rc : Byte} {p : Bytes}
    (hfits : i.fitsFrame = true) (hshape : requestShape i = some (c, d))
    (h : hostExchange c d (minLenOf i s.hostMin) s = (.ok (rc, p), t)) :
    exec i s = .next { t with hostOut := replyResult i rc p } := by
  cases i with
  | testLink | readInfo | readVersion | readRatios | unlockArchive =>
    cases hshape
    exact congrArg Host.Outcome.next (hostEnd_of_ok h _)
  | openSession lvl pw =>
    cases hshape
    simp only [Instr.fitsFrame, Bool.and_eq_true, decide_eq_true_eq] at hfits
    obtain ⟨-, -, hlen⟩ := hfits
    rw [exec, execOpenSession, hostOpenSession_of_six hlen]
    exact congrArg Host.Outcome.next (hostEnd_of_ok h _)
  | readNetaddr =>
    cases hshape
    exact congrArg Host.Outcome.next (hostEnd_hostCheck_of_ok h (fun x => netaddrOf x.2) .netaddr)
  | readEnergy group index =>
    cases hshape
    exact congrArg Host.Outcome.next (hostEnd_hostCheck_of_ok h (fun x => energyOf x.1 x.2) .energy)
  | configure | checksum | build | parse | exchange | close | reservedOp => cases hshape

/-- A host operation whose first attempt delivers a good frame: OUT holds the response, the request is on the wire once,
and the host holds what it makes of the response. -/
theorem exec_of_goodReply {s : State} {i : Instr} {f : Bytes} {a rc : Byte} {p : Bytes} (hfits : i.fitsFrame = true)
    (hidle : s.fsm = .idle) (hopen : s.lc = .opened) (hreply : repliesWith s (minLenOf i s.hostMin) f)
    (hparse : parseFrame f (some (s.addr.toNat : Int)) = .ok (a, rc, p)) :
    ∃ u, exec i s = .next u ∧ u.out = .ok (.response rc p) ∧ encodeWire s.addr i = some u.req ∧ u.tx = s.tx ++ u.req ∧
      u.hostOut = replyResult i rc p := by
  cases hshape : requestShape i with
  | none => cases i <;> simp [Instr.fitsFrame, requestShape] at hfits hshape
  | some shape =>
    obtain ⟨c, d⟩ := shape
    obtain ⟨hc, hd⟩ := inByte_of_requestShape hfits hshape
    obtain ⟨x, rest, hatt, rfl⟩ := attempted_of_repliesWith hreply
    obtain ⟨t, ht, -, -, hout, hreq, htx, -⟩ := hostExchange_of_goodFrame hidle hopen hc hd hatt hparse
    exact ⟨_, exec_of_response hfits hshape ht, hout, encodeWire_eq_some.2 ⟨hfits, c, d, hshape, hreq.symm⟩, htx, rfl⟩

/-- Settles O49: each of the four reads has a request that fits its frame, and its decoder takes the branch of the
payload's length. -/
theorem parameterReadsDecodeTheirReply : Obligations.ParameterReadsDecodeTheirReply := by
  unfold Obligations.ParameterReadsDecodeTheirReply
  intro s i f a rc p hi hidle hopen hreply hparse
  have hfits : i.fitsFrame = true := by rcases hi with rfl | rfl | rfl | rfl <;> rfl
  obtain ⟨u, hexec, hout, hreq, htx, hres⟩ := exec_of_goodReply hfits hidle hopen hreply hparse
  refine ⟨u, hexec, hout, hreq, htx, ?_, ?_, ?_, ?_, ?_, ?_, ?_, ?_⟩ <;> rw [hres] <;> rintro rfl
  · rfl
  · exact fun h => by rw [replyResult, versionOf_of_three h]
  · exact fun h => by rw [replyResult, versionOf_of_two h]
  · exact fun h => by rw [replyResult, versionOf_of_short h]
  · exact fun h => by rw [replyResult, ratiosOf_of_three h]
  · exact fun h => by rw [replyResult, ratiosOf_of_short h]
  · exact fun h => by rw [replyResult, netaddrOf_of_ne_nil h, checkedResult]
  · rintro rfl
    rfl

/-- Settles O50: twelve payload bytes hold two blocks of four, and fewer fail the check. -/
theorem readEnergyDecodesItsReply : Obligations.ReadEnergyDecodesItsReply := by
  unfold Obligations.ReadEnergyDecodesItsReply
  intro s g i f a rc p hidle hopen hreply hparse
  have hfits : (Instr.readEnergy (byteInt g) (byteInt i)).fitsFrame = true := by simp [Instr.fitsFrame]
  obtain ⟨u, hexec, hout, hreq, htx, hres⟩ := exec_of_goodReply hfits hidle hopen hreply hparse
  obtain ⟨-, c, d, hshape, hframe⟩ := encodeWire_eq_some.1 hreq
  cases hshape
  rw [List.map_cons, List.map_cons, toByte_byteInt, toByte_byteInt] at hframe
  refine ⟨u, hexec, hout, htx.trans (congrArg _ hframe.symm), fun hlen => ?_, fun hlen => ?_⟩
  · obtain ⟨active, reactive, hactive, hreactive, he⟩ := energyOf_of_twelve hlen rc
    exact ⟨active, reactive, hactive, hreactive, by rw [hres, replyResult, he, checkedResult]⟩
  · rw [hres, replyResult, energyOf_of_short hlen, checkedResult]

end Sys2Proof.Machine

/-! # Sequences of the host profile as their exchanges: where they stop, what they send (O59, O60) -/

namespace Sys2Proof.Machine

open Sys2Proof

/-! ### The responses of exchanges one after another -/

/-- The responses of exchanges one after another, or the outcome of the first that fails, or whose payload fails its
check (R260, R264, R276); and the state then. -/
def responses (xs : List HostExchange) (s : State) : HostStep (List (Byte × Bytes)) :=
  match xs with
  | [] => (.ok [], s)
  | x :: rest =>
    hostThen (hostExchange x.command x.data x.minlen s) fun r t =>
      if x.check.failsOn r.2 then (.error (.err { reason := .shortPayload }), t)
      else hostThen (responses rest t) fun rs u => (.ok (r :: rs), u)

/-- The outcome a piece of the host profile stopped with, if it did. -/
def failureOf {α : Type} (r : Except Out α) : Option Out :=
  match r with
  | .ok _ => none
  | .error o => some o

section

variable {x : HostExchange} {xs : List HostExchange} {s t : State}

theorem responses_cons_of_error {o : Out} (h : hostExchange x.command x.data x.minlen s = (.error o, t)) :
    responses (x :: xs) s = (.error o, t) := by
  rw [responses, h, hostThen]

theorem responses_cons_of_failsOn {r : Byte × Bytes} (h : hostExchange x.command x.data x.minlen s = (.ok r, t))
    (hcheck : x.check.failsOn r.2 = true) : responses (x :: xs) s = (.error (.err { reason := .shortPayload }), t) := by
  rw [responses, h, hostThen, if_pos hcheck]

theorem responses_cons_of_ok {r : Byte × Bytes} (h : hostExchange x.command x.data x.minlen s = (.ok r, t))
    (hcheck : x.check.failsOn r.2 = false) :
    responses (x :: xs) s = hostThen (responses xs t) fun rs u => (.ok (r :: rs), u) := by
  rw [responses, h, hostThen, if_neg (by simp [hcheck])]

end

/-- What the host reads in OUT is a response, or OUT itself (R260). -/
theorem exchangeResult_cases (o : Out) :
    (∃ rc p, o = .ok (.response rc p) ∧ exchangeResult o = .ok (rc, p)) ∨
    ((∀ rc p, o ≠ .ok (.response rc p)) ∧ exchangeResult o = .error o) := by
  unfold exchangeResult
  split
  next rc p => exact .inl ⟨rc, p, rfl, rfl⟩
  next v hv => exact .inr ⟨fun rc p h => hv rc p (Out.ok.inj h), rfl⟩
  next info => exact .inr ⟨nofun, rfl⟩
  next r => exact .inr ⟨nofun, rfl⟩

/-- The host reads a response exactly when OUT holds it. -/
theorem hostExchange_eq_ok {c : Int} {d : List Int} {m : Nat} {s t : State} {r : Byte × Bytes} :
    hostExchange c d m s = (.ok r, t) ↔ (exchange c d m s).out = .ok (.response r.1 r.2) ∧ exchange c d m s = t := by
  rw [hostExchange, Prod.mk.injEq]
  refine and_congr_left fun _ => ?_
  rcases exchangeResult_cases (exchange c d m s).out with ⟨rc, p, hout, hres⟩ | ⟨hne, hres⟩ <;> rw [hres]
  · simp [hout, Prod.ext_iff]
  · simp [hne]

/-- Exchanges one after another fail exactly when they give no responses, with that outcome and in that state. -/
theorem runExchanges_eq (xs : List HostExchange) (s : State) :
    runExchanges xs s = (failureOf (responses xs s).1, (responses xs s).2) := by
  induction xs generalizing s with
  | nil => rfl
  | cons x rest ih =>
    rcases exchangeResult_cases (exchange x.command x.data x.minlen s).out with ⟨rc, p, hout, hres⟩ | ⟨hne, hres⟩
    · have h : hostExchange x.command x.data x.minlen s = (.ok (rc, p), exchange x.command x.data x.minlen s) :=
        hostExchange_eq_ok.2 ⟨hout, rfl⟩
      rw [runExchanges, hout]
      cases hcheck : x.check.failsOn p with
      | true =>
        rw [responses_cons_of_failsOn h hcheck]
        simp only [hcheck]
        rfl
      | false =>
        rw [responses_cons_of_ok h hcheck]
        simp only [hcheck, ih]
        rcases responses rest (exchange x.command x.data x.minlen s) with ⟨o | rs, t⟩ <;> rfl
    · have h : hostExchange x.command x.data x.minlen s =
          (.error (exchange x.command x.data x.minlen s).out, exchange x.command x.data x.minlen s) := by
        rw [hostExchange, hres]
      rw [responses_cons_of_error h, runExchanges]
      split
      next rc p hout => exact absurd hout (hne rc p)
      next => rfl

/-- Exchanges that all pass: the first reads its response, and the others pass after it. -/
theorem responses_cons_eq_ok {x : HostExchange} {xs : List HostExchange} {s t : State} {rs : List (Byte × Bytes)}
    (h : responses (x :: xs) s = (.ok rs, t)) :
    ∃ r rs', (exchange x.command x.data x.minlen s).out = .ok (.response r.1 r.2) ∧ rs = r :: rs' ∧
      responses xs (exchange x.command x.data x.minlen s) = (.ok rs', t) := by
  rcases he : hostExchange x.command x.data x.minlen s with ⟨o | r, u⟩
  · rw [responses_cons_of_error he] at h
    cases h
  · obtain ⟨hout, rfl⟩ := hostExchange_eq_ok.1 he
    cases hcheck : x.check.failsOn r.2 with
    | true =>
      rw [responses_cons_of_failsOn he hcheck] at h
      cases h
    | false =>
      rw [responses_cons_of_ok he hcheck] at h
      rcases hrest : responses xs (exchange x.command x.data x.minlen s) with ⟨o | rs', u⟩ <;> rw [hrest] at h <;>
        cases h
      exact ⟨r, rs', hout, rfl, rfl⟩

/-- Exchanges write no setting. -/
@[simp] theorem responses_settings (xs : List HostExchange) (s : State) : (responses xs s).2.settings = s.settings := by
  induction xs generalizing s with
  | nil => rfl
  | cons x rest ih =>
    refine (hostThen_settings fun r t => ?_).trans (hostExchange_settings _ _ _ s)
    split
    · rfl
    · exact (hostThen_settings fun _ _ => rfl).trans (ih t)

/-- Exchanges and then more exchanges. -/
theorem responses_append (xs ys : List HostExchange) (s : State) :
    responses (xs ++ ys) s =
      hostThen (responses xs s) fun rs t => hostThen (responses ys t) fun rs' u => (.ok (rs ++ rs'), u) := by
  induction xs generalizing s with
  | nil =>
    rw [List.nil_append, responses, hostThen]
    rcases responses ys s with ⟨o | rs, t⟩ <;> rfl
  | cons x rest ih =>
    rw [List.cons_append]
    rcases he : hostExchange x.command x.data x.minlen s with ⟨o | r, u⟩
    · rw [responses_cons_of_error he, responses_cons_of_error he, hostThen]
    · cases hcheck : x.check.failsOn r.2 with
      | true => rw [responses_cons_of_failsOn he hcheck, responses_cons_of_failsOn he hcheck, hostThen]
      | false =>
        rw [responses_cons_of_ok he hcheck, responses_cons_of_ok he hcheck, ih]
        rcases responses rest u with ⟨o | rs, v⟩
        · rfl
        · simp only [hostThen]
          rcases responses ys v with ⟨o | rs', w⟩ <;> rfl

/-- A piece and then nothing is the piece. -/
theorem hostThen_ok {α : Type} (x : HostStep α) : hostThen x (fun a t => (.ok a, t)) = x := by
  obtain ⟨_ | _, _⟩ := x <;> rfl

/-! ### Pieces of the host profile that are exchanges and their decoding -/

/-- A piece of the host profile makes these exchanges from `s` on and stops with the first failure; when all pass it
gives a value that stands in the relation `Q` to the responses, in the state the last exchange left. -/
inductive Follows {α : Type} (xs : List HostExchange) (s : State) (Q : List (Byte × Bytes) → α → Prop) :
    HostStep α → Prop
  | done {rs : List (Byte × Bytes)} {a : α} {t : State} (h : responses xs s = (.ok rs, t)) (ha : Q rs a) :
      Follows xs s Q (.ok a, t)
  | stopped {o : Out} {t : State} (h : responses xs s = (.error o, t)) : Follows xs s Q (.error o, t)

namespace Follows

variable {α β : Type} {x : HostExchange} {xs ys : List HostExchange} {s t : State} {settings : Settings}
  {Q : List (Byte × Bytes) → α → Prop} {R : List (Byte × Bytes) → β → Prop} {piece : HostStep α}

/-- No exchange, and a value. -/
theorem nil {a : α} (h : Q [] a) : Follows [] s Q (.ok a, s) := .done rfl h

/-- One exchange, and what the host does with its response: it stops when the check fails, and goes on otherwise. -/
theorem cons {first : HostStep (Byte × Bytes)} {next : Byte × Bytes → State → HostStep α}
    (hs : s.settings = settings) (hfirst : first = hostExchange x.command x.data x.minlen s)
    (hfail : ∀ r t, x.check.failsOn r.2 = true → next r t = (.error (.err { reason := .shortPayload }), t))
    (hnext : ∀ r t, t.settings = settings → x.check.failsOn r.2 = false →
      Follows xs t (fun rs => Q (r :: rs)) (next r t)) :
    Follows (x :: xs) s Q (hostThen first next) := by
  have ht := hostExchange_settings x.command x.data x.minlen s
  rcases he : hostExchange x.command x.data x.minlen s with ⟨o | r, t⟩ <;> rw [hfirst, he, hostThen]
  · exact .stopped (responses_cons_of_error he)
  · cases hcheck : x.check.failsOn r.2 with
    | true =>
      rw [hfail r t hcheck]
      exact .stopped (responses_cons_of_failsOn he hcheck)
    | false =>
      rw [he] at ht
      have hresponses := responses_cons_of_ok (xs := xs) he hcheck
      have hrest := hnext r t (ht.trans hs) hcheck
      generalize next r t = rest at hrest ⊢
      cases hrest with
      | done h ha => exact .done (by rw [hresponses, h, hostThen]) ha
      | stopped h => exact .stopped (by rw [hresponses, h, hostThen])

/-- One exchange whose response the host does not check. -/
theorem unchecked {first : HostStep (Byte × Bytes)} {next : Byte × Bytes → State → HostStep α}
    (hs : s.settings = settings) (hcheck : x.check = .anything)
    (hfirst : first = hostExchange x.command x.data x.minlen s)
    (hnext : ∀ r t, t.settings = settings → Follows xs t (fun rs => Q (r :: rs)) (next r t)) :
    Follows (x :: xs) s Q (hostThen first next) := by
  refine cons hs hfirst (fun r t hfails => ?_) fun r t ht _ => hnext r t ht
  rw [hcheck] at hfails
  cases hfails

/-- A piece and then another. -/
theorem append {next : α → State → HostStep β} (h : Follows xs s Q piece) (hs : s.settings = settings)
    (hnext : ∀ rs a t, t.settings = settings → Q rs a → Follows ys t (fun rs' => R (rs ++ rs')) (next a t)) :
    Follows (xs ++ ys) s R (hostThen piece next) := by
  have hresponses := responses_append xs ys s
  cases h with
  | stopped h => exact .stopped (by rw [hresponses, h, hostThen])
  | @done rs a t h ha =>
    have ht : t.settings = settings := by rw [← hs, ← responses_settings xs s, h]
    rw [hostThen]
    have hrest := hnext rs a t ht ha
    generalize next a t = rest at hrest ⊢
    cases hrest with
    | done h' hb => exact .done (by rw [hresponses, h, hostThen, h', hostThen]) hb
    | stopped h' => exact .stopped (by rw [hresponses, h, hostThen, h', hostThen])

/-- A piece whose value is changed. -/
theorem map {f : α → β} (h : Follows xs s Q piece) (hf : ∀ rs a, Q rs a → R rs (f a)) :
    Follows xs s R (hostThen piece fun a t => (.ok (f a), t)) := by
  cases h with
  | done h ha => exact .done h (hf _ _ ha)
  | stopped h => exact .stopped h

/-- When all exchanges pass, the piece gives its value. -/
theorem of_ok {rs : List (Byte × Bytes)} (h : Follows xs s Q piece) (hrs : responses xs s = (.ok rs, t)) :
    ∃ a, piece = (.ok a, t) ∧ Q rs a := by
  cases h with
  | done h ha =>
    rw [h] at hrs
    cases hrs
    exact ⟨_, rfl, ha⟩
  | stopped h =>
    rw [h] at hrs
    cases hrs

end Follows

/-! ### The pieces, in the order of their definitions (R268, R275 to R279) -/

/-- The reading decoded from a response (R276). -/
def ReadingOf (r : Byte × Bytes) (e : EnergyReading) : Prop := energyOf r.1 r.2 = .ok e

/-- The register reads of a group under some labels (R277). -/
def registerReads (ms : MinLens) (group : Int) (labels : List TariffLabel) : List HostExchange :=
  labels.map fun l => ⟨0x05, [group, l.index], ms.energy, .atLeastTwelve⟩

/-- An energy value holds the readings of six responses under their labels (R277, R281). -/
def SetOf (rs : List (Byte × Bytes)) (e : EnergyFromReset) : Prop :=
  ∃ vs, e = energyFromReset vs ∧ vs.map Prod.fst = tariffLabels ∧ List.Forall₂ ReadingOf rs (vs.map Prod.snd)

/-- Energy values, one for each group of six responses (R279). -/
def YearOf (n : Nat) (rs : List (Byte × Bytes)) (es : List EnergyFromReset) : Prop :=
  ∃ groups : List (List (Byte × Bytes)), groups.length = n ∧ rs = groups.flatten ∧ List.Forall₂ SetOf groups es

/-- The passport of six responses (R268, R269). -/
def PassportOf (ps : PassportParams) (rs : List (Byte × Bytes)) (d : PassportData) : Prop :=
  ∃ (link session address info version ratios : Byte × Bytes) (na : Byte),
    rs = [link, session, address, info, version, ratios] ∧ netaddrOf address.2 = .ok na ∧
    d = passportOf ps na info version ratios
      [⟨.testLink, link.1, link.2⟩, ⟨.openSession, session.1, session.2⟩, ⟨.netaddr, address.1, address.2⟩,
       ⟨.info, info.1, info.2⟩, ⟨.version, version.1, version.2⟩, ⟨.ratios, ratios.1, ratios.2⟩]

section

variable {s : State} {settings : Settings} (hs : s.settings = settings)

include hs

theorem hostReadEnergy_follows (group index : Int) :
    Follows [⟨0x05, [group, index], settings.hostMin.energy, .atLeastTwelve⟩] s
      (fun rs e => ∃ r, rs = [r] ∧ ReadingOf r e) (hostReadEnergy group index s) := by
  refine .cons hs (by rw [← hs]; rfl) (fun r t hshort => ?_) fun r t ht hlong => ?_
  · have hlen : r.2.length < 12 := of_decide_eq_true hshort
    simp only [energyOf_of_short hlen, hostCheck]
  · obtain ⟨active, reactive, -, -, he⟩ := energyOf_of_twelve (Nat.le_of_not_lt (of_decide_eq_false hlong)) r.1
    simp only [he, hostCheck]
    exact .nil ⟨r, rfl, he⟩

theorem hostPrepareEnergy_follows :
    Follows (prepareExchanges settings.hostMin) s (fun rs _ => rs.length = 2) (hostPrepareEnergy s) := by
  refine .unchecked hs rfl (by rw [← hs, hostOpenSession_of_six rfl]; rfl) fun r t ht => ?_
  rw [← hostThen_ok (hostUnlock t)]
  exact .unchecked ht rfl (by rw [← ht]; rfl) fun r' t' _ => .nil rfl

theorem hostReadGroup_follows (group : Int) (labels : List TariffLabel) :
    Follows (registerReads settings.hostMin group labels) s
      (fun rs vs => vs.map Prod.fst = labels ∧ List.Forall₂ ReadingOf rs (vs.map Prod.snd))
      (hostReadGroup group labels s) := by
  induction labels generalizing s with
  | nil => exact .nil ⟨rfl, .nil⟩
  | cons l rest ih =>
    refine (hostReadEnergy_follows hs group l.index).append hs ?_
    rintro _ e t ht ⟨r, rfl, he⟩
    refine (ih ht).map ?_
    rintro rs vs ⟨hlabels, hreadings⟩
    exact ⟨congrArg (l :: ·) hlabels, .cons he hreadings⟩

theorem hostReadSet_follows (group : Int) :
    Follows (groupExchanges settings.hostMin group) s SetOf (hostReadSet group s) :=
  (hostReadGroup_follows hs group tariffLabels).map fun _ vs h => ⟨vs, rfl, h⟩

theorem hostReadMonths_follows (months : List Int) :
    Follows (months.flatMap fun m => groupExchanges settings.hostMin (0x30 + m)) s (YearOf months.length)
      (hostReadMonths months s) := by
  induction months generalizing s with
  | nil => exact .nil ⟨[], rfl, rfl, .nil⟩
  | cons m rest ih =>
    refine (hostReadSet_follows hs (0x30 + m)).append hs fun rs e t ht he => ?_
    refine (ih ht).map ?_
    rintro _ es ⟨groups, hlen, rfl, hes⟩
    exact ⟨rs :: groups, congrArg (· + 1) hlen, rfl, .cons he hes⟩

theorem hostPassport_follows :
    Follows (exchangesOf .readPassport settings.hostMin) s (PassportOf settings.passportParams) (hostPassport s) := by
  refine .unchecked hs rfl (by rw [← hs]; rfl) fun link s1 h1 => ?_
  refine .unchecked h1 rfl (by rw [← h1, hostOpenSession_of_six rfl]; rfl) fun session s2 h2 => ?_
  refine .cons h2 (by rw [← h2]; rfl) (fun address s3 hempty => ?_) fun address s3 h3 hsome => ?_
  · have hnil : address.2 = [] := List.isEmpty_iff.1 hempty
    simp only [hnil, netaddrOf, hostCheck, hostThen]
  · have hne : address.2 ≠ [] := fun hnil => by simp [PayloadCheck.failsOn, hnil] at hsome
    have hna := netaddrOf_of_ne_nil hne
    simp only [hna, hostCheck, hostThen]
    refine .unchecked h3 rfl (by rw [← h3]; rfl) fun info s4 h4 => ?_
    refine .unchecked h4 rfl (by rw [← h4]; rfl) fun version s5 h5 => ?_
    refine .unchecked h5 rfl (by rw [← h5]; rfl) fun ratios s6 h6 => ?_
    have hparams : s6.passportParams = settings.passportParams := congrArg Settings.passportParams h6
    rw [hparams]
    exact .nil ⟨link, session, address, info, version, ratios, _, rfl, hna, rfl⟩

end

/-! ### A sequence and its exchanges -/

/-- The register reads of a group after PREPARE_ENERGY (R277, R278). -/
theorem hostPreparedSet_follows (group : Int) (s : State) :
    Follows (prepareExchanges s.hostMin ++ groupExchanges s.hostMin group) s (fun rs => SetOf (rs.drop 2))
      (hostThen (hostPrepareEnergy s) fun _ t => hostReadSet group t) := by
  refine (hostPrepareEnergy_follows (settings := s.settings) rfl).append rfl fun rs r t ht hlen => ?_
  simp only [List.drop_left' hlen]
  exact hostReadSet_follows ht group

/-- READ_ENERGY_ALL (R279). -/
theorem hostEnergyAll_follows (s : State) :
    Follows (exchangesOf .readEnergyAll s.hostMin) s (fun rs => YearOf 12 (rs.drop 2)) (hostEnergyAll s) := by
  refine (hostPrepareEnergy_follows (settings := s.settings) rfl).append rfl fun rs r t ht hlen => ?_
  simp only [List.drop_left' hlen]
  exact hostReadMonths_follows ht months

theorem hostEnergyMonth_of_in_range {m : Int} (h : 1 ≤ m ∧ m ≤ 12) (s : State) :
    hostEnergyMonth m s = hostThen (hostPrepareEnergy s) fun _ t => hostReadSet (0x30 + m) t :=
  if_pos h

/-- A sequence is its exchanges and their decoding, kept as the host's result. -/
theorem runSequence_follows {q : Sequence} (hq : ∀ m, q = .readEnergyMonth m → 1 ≤ m ∧ m ≤ 12) (s : State) :
    ∃ (α : Type) (Q : List (Byte × Bytes) → α → Prop) (piece : HostStep α) (result : α → HostResult),
      runSequence q s = hostEnd piece result ∧ Follows (exchangesOf q s.hostMin) s Q piece := by
  cases q with
  | readPassport => exact ⟨_, _, _, _, rfl, hostPassport_follows (settings := s.settings) rfl⟩
  | prepareEnergy => exact ⟨_, _, _, _, rfl, hostPrepareEnergy_follows (settings := s.settings) rfl⟩
  | readEnergyReset => exact ⟨_, _, _, _, rfl, hostPreparedSet_follows 0x00 s⟩
  | readEnergyMonth m =>
    exact ⟨_, _, _, HostResult.energySet, by rw [runSequence, hostEnergyMonth_of_in_range (hq m rfl)],
      hostPreparedSet_follows (0x30 + m) s⟩
  | readEnergyAll => exact ⟨_, _, _, _, rfl, hostEnergyAll_follows s⟩

/-- Settles O60: a sequence is its exchanges, and what it does beside them is decoding. -/
theorem sequencesStopAtTheFirstFailure : Obligations.SequencesStopAtTheFirstFailure := by
  unfold Obligations.SequencesStopAtTheFirstFailure
  intro s t q hq
  obtain ⟨α, Q, piece, result, hrun, hfollows⟩ := runSequence_follows hq s
  rw [hrun, runExchanges_eq]
  cases hfollows with
  | done h ha =>
    rw [h]
    refine ⟨fun o ho => ?_, fun ho => ?_⟩ <;> obtain ⟨hfailure, rfl⟩ := Prod.mk.inj ho
    · cases hfailure
    · exact ⟨_, rfl⟩
  | stopped h =>
    rw [h]
    refine ⟨fun o ho => ?_, fun ho => ?_⟩ <;> obtain ⟨hfailure, rfl⟩ := Prod.mk.inj ho
    · cases hfailure
      rfl
    · cases hfailure

/-! ### The frames a sequence sends -/

/-- The request frame of an exchange to device `a` (R100, R192). -/
def HostExchange.frame (a : Byte) (x : HostExchange) : Bytes := Machine.frame a (toByte x.command) (x.data.map toByte)

/-- An EXCHANGE with a response sent its request frame once per attempt (R194, R195, R215). -/
theorem exchange_sent {s : State} {c : Int} {d : List Int} {m : Nat} {rc : Byte} {p : Bytes} (hidle : s.fsm = .idle)
    (hopen : s.lc = .opened) (h : (exchange c d m s).out = .ok (.response rc p)) :
    ∃ n, (1 ≤ n ∧ n ≤ s.retries + 1) ∧
      (exchange c d m s).tx = s.tx ++ (List.replicate n (frame s.addr (toByte c) (d.map toByte))).flatten := by
  have hbuild (r : Reason) : buildRequest (byteInt s.addr) c d ≠ .error r := fun hr => by
    rw [exchange_of_buildRequest_error hidle hopen hr, State.fail_out] at h
    cases h
  have hc : inByte c = true := by
    by_contra hc
    exact hbuild _ (buildRequest_of_bad_command s.addr (Bool.eq_false_iff.2 hc) d)
  have hd : d.all inByte = true := by
    by_contra hd
    exact hbuild _ (buildRequest_of_bad_data s.addr hc (Bool.eq_false_iff.2 hd))
  obtain ⟨-, hend⟩ := exchange_ending hidle hopen hc hd m
  cases hend with
  | succeeded _ _ _ hatt htranscript => exact ⟨_, hatt, htranscript.tx⟩
  | classified info hout | aborted info part hout =>
    rw [hout] at h
    cases h

theorem sentFrames_cons (n : Nat) (counts : List Nat) (f : Bytes) (frames : List Bytes) :
    sentFrames (n :: counts) (f :: frames) = (List.replicate n f).flatten ++ sentFrames counts frames := by
  simp [sentFrames]

/-- Exchanges that all pass sent their request frames in order, each 1 to RETRIES + 1 times. -/
theorem responses_sent {xs : List HostExchange} {s t : State} {rs : List (Byte × Bytes)} (hidle : s.fsm = .idle)
    (hopen : s.lc = .opened) (h : responses xs s = (.ok rs, t)) :
    ∃ counts : List Nat, counts.length = xs.length ∧ (∀ n ∈ counts, 1 ≤ n ∧ n ≤ s.retries + 1) ∧
      t.tx = s.tx ++ sentFrames counts (xs.map (HostExchange.frame s.addr)) := by
  induction xs generalizing s rs with
  | nil =>
    cases h
    exact ⟨[], rfl, nofun, (List.append_nil _).symm⟩
  | cons x rest ih =>
    obtain ⟨r, rs', hout, -, hrest⟩ := responses_cons_eq_ok h
    obtain ⟨n, hn, htx⟩ := exchange_sent hidle hopen hout
    obtain ⟨hlc, haddr, hretries, -⟩ := Settings.mk.inj (exchange_settings x.command x.data x.minlen s)
    obtain ⟨counts, hlen, hcounts, hsent⟩ := ih (exchange_idle hidle _ _ _) (hlc.trans hopen) hrest
    rw [hretries] at hcounts
    rw [haddr, htx, List.append_assoc] at hsent
    exact ⟨n :: counts, congrArg (· + 1) hlen, List.forall_mem_cons.2 ⟨hn, hcounts⟩,
      hsent.trans (congrArg _ (sentFrames_cons n counts _ _).symm)⟩

/-- The request frames of the register reads of a group (R277). -/
theorem groupExchanges_map_frame (a : Byte) (ms : MinLens) (group : Int) :
    (groupExchanges ms group).map (HostExchange.frame a) = groupFrames a (toByte group) := rfl

theorem prepareExchanges_map_frame (a : Byte) (ms : MinLens) :
    (prepareExchanges ms).map (HostExchange.frame a) = prepareFrames a := rfl

/-- The value of a sequence that succeeds comes from a piece whose exchanges all passed. -/
theorem responses_of_runSequence_ok {q : Sequence} (hq : ∀ m, q = .readEnergyMonth m → 1 ≤ m ∧ m ≤ 12) {s : State}
    {v : HostResult} (h : (runSequence q s).hostOut = .ok v) :
    ∃ rs t, responses (exchangesOf q s.hostMin) s = (.ok rs, t) ∧ (runSequence q s).tx = t.tx := by
  obtain ⟨α, Q, piece, result, hrun, hfollows⟩ := runSequence_follows hq s
  rw [hrun] at h ⊢
  cases hfollows with
  | done hrs => exact ⟨_, _, hrs, rfl⟩
  | stopped => cases h

/-- Settles O59: each sequence's exchanges have the frames listed, and all passed. -/
theorem sequencesSendTheirFrames : Obligations.SequencesSendTheirFrames := by
  unfold Obligations.SequencesSendTheirFrames
  intro s q v frames hidle hopen hframes hv
  have hq : ∀ m, q = .readEnergyMonth m → 1 ≤ m ∧ m ≤ 12 := by
    rintro m rfl
    simp only [reduceCtorEq, false_and, false_or, or_false, Sequence.readEnergyMonth.injEq] at hframes
    obtain ⟨k, hk1, hk12, rfl, -⟩ := hframes
    omega
  have hmap : (exchangesOf q s.hostMin).map (HostExchange.frame s.addr) = frames := by
    rcases hframes with ⟨rfl, rfl⟩ | ⟨rfl, rfl⟩ | ⟨rfl, rfl⟩ | ⟨m, -, -, rfl, rfl⟩ | ⟨rfl, rfl⟩
    · rfl
    · rfl
    · rfl
    · have hgroup : toByte (0x30 + (m : Int)) = BitVec.ofNat 8 (0x30 + m) := BitVec.ofInt_natCast 8 (0x30 + m)
      rw [exchangesOf, List.map_append, groupExchanges_map_frame, prepareExchanges_map_frame, hgroup]
    · rfl
  obtain ⟨rs, t, hrs, htx⟩ := responses_of_runSequence_ok hq hv
  obtain ⟨counts, hlen, hcounts, hsent⟩ := responses_sent hidle hopen hrs
  rw [hmap] at hsent
  have hlen' : counts.length = frames.length := by rw [hlen, ← hmap, List.length_map]
  refine ⟨counts, hlen', ?_, hcounts, htx.trans hsent⟩
  rintro rfl
  exact hlen

end Sys2Proof.Machine

/-! # Sequences of the host profile on good replies: the values they give (O56, O57, O58) -/

namespace Sys2Proof.Machine

open Sys2Proof

/-! ### Sequences whose exchanges are all answered with good frames -/

/-- The attempt whose answers deliver `f` to a head read of at least that length. -/
def answeringAttempt (f : Bytes) : Attempt :=
  ⟨⟨[], false, 0⟩, ⟨[], false, 0⟩, ⟨f, false, f.length⟩, ⟨[], false, 0⟩, ⟨[], false, 0⟩⟩

theorem answeringAttempt_draws (f : Bytes) : (answeringAttempt f).draws = answersWith f := rfl

theorem answeringAttempt_noneFails (f : Bytes) : noneFails (answeringAttempt f).draws := by
  simp [noneFails, answeringAttempt_draws, answersWith]

theorem answeringAttempt_delivers {f : Bytes} {m : Nat} (h : f.length ≤ m) : (answeringAttempt f).delivers m = f := by
  simp [Attempt.delivers, answeringAttempt, collects, splitRead, h]

/-- An exchange whose operands are bytes, answered with a good frame (frame, response command, payload) that passes the
host's check. -/
structure Answered (s : State) (x : HostExchange) (reply : Bytes × Byte × Bytes) : Prop where
  command : inByte x.command = true
  data : x.data.all inByte = true
  good : goodReply s x.minlen reply.1 reply.2.1 reply.2.2
  checked : x.check.failsOn reply.2.2 = false

/-- Exchanges answered so all pass and give the responses. -/
theorem responses_of_answered {xs : List HostExchange} {replies : List (Bytes × Byte × Bytes)} {s : State}
    {rest : List Draw} (hidle : s.fsm = .idle) (hopen : s.lc = .opened)
    (hin : s.inputs = ((replies.map Prod.fst).map answersWith).flatten ++ rest)
    (h : List.Forall₂ (Answered s) xs replies) : ∃ t, responses xs s = (.ok (replies.map Prod.snd), t) := by
  induction xs generalizing s replies with
  | nil =>
    cases h
    exact ⟨s, rfl⟩
  | cons x xs ih =>
    cases h with
    | @cons _ reply _ replies hreply hreplies =>
    obtain ⟨f, rc, p⟩ := reply
    obtain ⟨hc, hd, ⟨hlen, hparse⟩, hcheck⟩ := hreply
    have hatt : attempted s [answeringAttempt f] (((replies.map Prod.fst).map answersWith).flatten ++ rest) :=
      attempted_cons.2 ⟨by simp [hin, answeringAttempt_draws], answeringAttempt_noneFails f, nofun⟩
    obtain ⟨t, ht, htidle, hsettings, -, -, -, hrest, -⟩ := hostExchange_of_goodFrame hidle hopen hc hd hatt
      ((answeringAttempt_delivers hlen).symm ▸ hparse)
    obtain ⟨hlc, haddr, -⟩ := Settings.mk.inj hsettings
    have hreplies : List.Forall₂ (Answered t) xs replies := by
      refine hreplies.imp fun y r hr => { hr with good := ?_ }
      rw [goodReply, haddr]
      exact hr.good
    obtain ⟨u, hu⟩ := ih htidle (hlc.trans hopen) hrest hreplies
    exact ⟨u, by rw [responses_cons_of_ok ht hcheck, hu]; rfl⟩

/-! ### The decoded values -/

/-- A reading holds the decoded blocks of its response and the payload (R276). -/
theorem energyOf_eq_ok {rc : Byte} {p : Bytes} {e : EnergyReading} (h : energyOf rc p = .ok e) :
    decodeEnergy rc (p.take 4) = .ok e.active ∧ decodeEnergy rc ((p.drop 8).take 4) = .ok e.reactive ∧ e.raw = p := by
  unfold energyOf at h
  split at h
  · cases h
  · split at h
    next hactive hreactive =>
      cases h
      exact ⟨hactive, hreactive, rfl⟩
    next => cases h
    next => cases h

/-- Lists whose elements correspond have the same image where corresponding elements do. -/
theorem map_eq_map_of_forall₂ {α β γ : Type} {R : α → β → Prop} {l : List α} {l' : List β} (h : List.Forall₂ R l l')
    {f : α → γ} {g : β → γ} (hR : ∀ a b, R a b → f a = g b) : l.map f = l'.map g := by
  rw [← List.forall₂_eq_eq_eq, List.forall₂_map_left_iff, List.forall₂_map_right_iff]
  exact h.imp hR

/-- Lists of one length correspond when all their elements do. -/
theorem forall₂_of_forall_mem {α β : Type} {R : α → β → Prop} {l : List α} {l' : List β} (hlen : l.length = l'.length)
    (h : ∀ a ∈ l, ∀ b ∈ l', R a b) : List.Forall₂ R l l' :=
  List.forall₂_iff_zip.2 ⟨hlen, fun hab => h _ (List.of_mem_zip hab).1 _ (List.of_mem_zip hab).2⟩

/-- The values of a group, under their labels, are those of its replies (R277, R281). -/
theorem holdsReadings_of_setOf {e : EnergyFromReset} {replies : List (Bytes × Byte × Bytes)}
    (h : SetOf (replies.map Prod.snd) e) : holdsReadings e replies := by
  obtain ⟨vs, rfl, hlabels, hreadings⟩ := h
  rw [List.forall₂_map_left_iff, List.forall₂_map_right_iff] at hreadings
  have hactive := map_eq_map_of_forall₂ hreadings fun _ _ hv => let ⟨h, _, _⟩ := energyOf_eq_ok hv; h
  have hreactive := map_eq_map_of_forall₂ hreadings fun _ _ hv => let ⟨_, h, _⟩ := energyOf_eq_ok hv; h
  have hraw := map_eq_map_of_forall₂ hreadings fun _ _ hv => let ⟨_, _, h⟩ := energyOf_eq_ok hv; h.symm
  refine ⟨List.map_map.trans hlabels, List.map_map.trans hactive.symm, List.map_map.trans hlabels,
    List.map_map.trans hreactive.symm, ?_⟩
  rw [hraw, ← tariffLabels, ← hlabels, List.zip_map']
  rfl

/-- PREPARE_ENERGY answered with two good frames. -/
theorem prepareExchanges_answered {s : State} {f1 f2 : Bytes} {r1 r2 : Byte} {p1 p2 : Bytes}
    (h1 : goodReply s s.hostMin.openSession f1 r1 p1) (h2 : goodReply s s.hostMin.unlock f2 r2 p2) :
    List.Forall₂ (Answered s) (prepareExchanges s.hostMin) [(f1, r1, p1), (f2, r2, p2)] :=
  .cons ⟨rfl, rfl, h1, rfl⟩ (.cons ⟨rfl, rfl, h2, rfl⟩ .nil)

/-- The register reads of a group answered with six good frames of at least twelve payload bytes. -/
theorem groupExchanges_answered {s : State} {group : Int} {replies : List (Bytes × Byte × Bytes)}
    (hgroup : inByte group = true) (hlen : replies.length = 6)
    (h : ∀ x ∈ replies, goodReply s s.hostMin.energy x.1 x.2.1 x.2.2 ∧ 12 ≤ x.2.2.length) :
    List.Forall₂ (Answered s) (groupExchanges s.hostMin group) replies := by
  have hindex : ∀ i ∈ ([0, 1, 2, 3, 4, 5] : List Int), inByte i = true := by decide
  refine forall₂_of_forall_mem hlen.symm fun x hx reply hreply => ?_
  obtain ⟨i, hi, rfl⟩ := List.mem_map.1 hx
  obtain ⟨hgood, htwelve⟩ := h reply hreply
  exact ⟨rfl, by simp [hgroup, hindex i hi], hgood, decide_eq_false (Nat.not_lt.2 htwelve)⟩

/-- READ_ENERGY_RESET and READ_ENERGY_MONTH read one group after PREPARE_ENERGY (R277, R278). -/
theorem runSequence_of_energySet {q : Sequence}
    (hq : q = .readEnergyReset ∨ ∃ m : Int, 1 ≤ m ∧ m ≤ 12 ∧ q = .readEnergyMonth m) (s : State) :
    ∃ group, inByte group = true ∧
      runSequence q s = hostEnd (hostThen (hostPrepareEnergy s) fun _ t => hostReadSet group t) .energySet := by
  rcases hq with rfl | ⟨m, hm1, hm12, rfl⟩
  · exact ⟨0x00, rfl, rfl⟩
  · exact ⟨0x30 + m, inByte_of_range (by omega), by rw [runSequence, hostEnergyMonth_of_in_range ⟨hm1, hm12⟩]⟩

/-- Settles O57: the exchanges pass, and the six responses after the preparation's are decoded under their labels. -/
theorem energySetHoldsItsReadings : Obligations.EnergySetHoldsItsReadings := by
  unfold Obligations.EnergySetHoldsItsReadings
  intro s q f1 f2 r1 r2 p1 p2 replies rest hidle hopen hq hlen hin h1 h2 hgood
  obtain ⟨group, hgroup, hrun⟩ := runSequence_of_energySet hq s
  have hanswered := List.rel_append (prepareExchanges_answered h1 h2) (groupExchanges_answered hgroup hlen hgood)
  obtain ⟨t, ht⟩ := responses_of_answered hidle hopen hin hanswered
  obtain ⟨e, he, hset⟩ := (hostPreparedSet_follows group s).of_ok ht
  exact ⟨e, by rw [hrun, he, hostEnd], holdsReadings_of_setOf hset⟩

/-- An energy value is that of six responses. -/
theorem length_of_setOf {rs : List (Byte × Bytes)} {e : EnergyFromReset} (h : SetOf rs e) : rs.length = 6 := by
  obtain ⟨vs, -, hlabels, hreadings⟩ := h
  rw [hreadings.length_eq, List.length_map, ← List.length_map (f := Prod.fst), hlabels]
  rfl

/-- Groups of six are told apart in the list of all responses. -/
theorem forall₂_holdsReadings_of_yearOf {es : List EnergyFromReset} {months : List (List (Bytes × Byte × Bytes))}
    (hsix : ∀ g ∈ months, g.length = 6) (h : YearOf months.length (months.flatten.map Prod.snd) es) :
    List.Forall₂ holdsReadings es months := by
  obtain ⟨groups, hlen, hflat, hes⟩ := h
  have hgroups : groups = months.map (List.map Prod.snd) := by
    refine List.eq_iff_flatten_eq.2 ⟨by rw [← hflat, List.map_flatten], ?_⟩
    have hleft : groups.map List.length = es.map fun _ => 6 :=
      map_eq_map_of_forall₂ hes fun _ _ he => length_of_setOf he
    have hright : (months.map (List.map Prod.snd)).map List.length = months.map fun _ => 6 := by
      rw [List.map_map]
      exact List.map_congr_left fun g hg => (List.length_map _).trans (hsix g hg)
    rw [hleft, hright, List.map_const', List.map_const', ← hes.length_eq, hlen]
  rw [hgroups, List.forall₂_map_left_iff] at hes
  exact (hes.imp fun _ _ => holdsReadings_of_setOf).flip

/-- Settles O58: the exchanges pass, and each six responses after the preparation's are one month's. -/
theorem energyYearHoldsItsReadings : Obligations.EnergyYearHoldsItsReadings := by
  unfold Obligations.EnergyYearHoldsItsReadings
  intro s f1 f2 r1 r2 p1 p2 months rest hidle hopen hlen hsix hin h1 h2 hgood
  have hgroups : ∀ g ∈ ([0x31, 0x32, 0x33, 0x34, 0x35, 0x36, 0x37, 0x38, 0x39, 0x3A, 0x3B, 0x3C] : List Int),
      inByte g = true := by decide
  have hmonths : List.Forall₂ (List.Forall₂ (Answered s))
      ([0x31, 0x32, 0x33, 0x34, 0x35, 0x36, 0x37, 0x38, 0x39, 0x3A, 0x3B, 0x3C].map (groupExchanges s.hostMin))
      months := by
    rw [List.forall₂_map_left_iff]
    exact forall₂_of_forall_mem hlen.symm fun g hg replies hreplies =>
      groupExchanges_answered (hgroups g hg) (hsix _ hreplies) fun x hx => hgood x (List.mem_flatten_of_mem hreplies hx)
  have hanswered := List.rel_append (prepareExchanges_answered h1 h2) (List.rel_flatten hmonths)
  obtain ⟨t, ht⟩ := responses_of_answered hidle hopen hin hanswered
  obtain ⟨es, he, hyear⟩ := (hostEnergyAll_follows s).of_ok ht
  exact ⟨es, by rw [runSequence, he, hostEnd], forall₂_holdsReadings_of_yearOf hsix (hlen ▸ hyear)⟩

/-- Settles O56: the exchanges pass, and the passport is that of the six responses. -/
theorem passportHoldsItsDecodedFields : Obligations.PassportHoldsItsDecodedFields := by
  unfold Obligations.PassportHoldsItsDecodedFields
  intro s fl fs fn fi fv fr rl rs rn ri rv rr na pl ps pn pi pv pr rest hidle hopen hin hl hs hn hi hv hr
  have hanswered : List.Forall₂ (Answered s) (exchangesOf .readPassport s.hostMin)
      [(fl, rl, pl), (fs, rs, ps), (fn, rn, na :: pn), (fi, ri, pi), (fv, rv, pv), (fr, rr, pr)] :=
    .cons ⟨rfl, rfl, hl, rfl⟩ <| .cons ⟨rfl, rfl, hs, rfl⟩ <| .cons ⟨rfl, rfl, hn, rfl⟩ <|
      .cons ⟨rfl, rfl, hi, rfl⟩ <| .cons ⟨rfl, rfl, hv, rfl⟩ <| .cons ⟨rfl, rfl, hr, rfl⟩ .nil
  obtain ⟨t, ht⟩ := responses_of_answered hidle hopen hin hanswered
  obtain ⟨d, hd, link, session, address, info, version, ratios, na', hrs, hna, rfl⟩ :=
    (hostPassport_follows (s := s) rfl).of_ok ht
  cases hrs
  cases hna
  refine ⟨_, by rw [runSequence, hd, hostEnd], rfl, rfl, rfl, rfl, rfl, ?_, ?_, rfl, rfl⟩ <;>
    simp [passportOf, PassportParams.keeps]

end Sys2Proof.Machine
